-- ==== Sys2Proof/Word.lean ====
section
/-! DEFINITION. The words of the block: bytes of the input stream and of the RLE output, and the 32-bit operand word.
-/
namespace Sys2Proof

/-- One byte of the input stream S, of the stripe data or of the RLE output (spec 20_memory.md R60). -/
abbrev Byte := BitVec 8

/-- A 32-bit operand word of the command interface (spec 30_encoding.md R122). -/
abbrev Word := BitVec 32

end Sys2Proof
end

