-- ==== Sys2Proof/Config.lean ====
section
/-! DEFINITION. What an implementation fixes, and the free values. The constants of spec 00_scope.md R5 have their values here;
what R5 leaves OPEN (the ZP oracle, CELL_INIT, JB2_MAXW, JB2_MAXH) and every value the spec calls unspecified is an
opaque constant without a body, so that nothing can be proved of which value it is.
-/
namespace Sys2Proof

/-- The two banks of context cells: `d` is CTXD, `x` is CTXX (spec 10_state.md R32, 44_jb2_direct.md R240). -/
inductive Bank where
  | d
  | x
  deriving DecidableEq, Repr

/-- A response of the ZP agent: a bit, or `EndOfStream` (spec 44_jb2_direct.md R240). -/
inductive ZpResponse where
  | bit (n : Bool)
  | endOfStream
  deriving DecidableEq, Repr, Inhabited

/-- One round trip with the ZP agent, `ZP.step : (z, bank, idx, cell) -> (response, z', cell')` (spec 44_jb2_direct.md R241);
`none` where the agent never answers the request (70_reset_and_hazards.md R349, 93_implementation_defined.md U14). The agent's state z and a cell's contents are opaque to the block; they are written as natural numbers, which any agent
whose states can be listed has a numbering in (DESIGN CHOICE, safe, log 11). -/
abbrev Zp := Nat → Bank → BitVec 11 → Nat → Option (ZpResponse × Nat × Nat)

namespace Config

/-- Width of the mode-code lookup window (spec 00_scope.md R5). -/
def modeNbits : Nat := 7

/-- Width of the run-code lookup window (spec 00_scope.md R5). -/
def runNbits : Nat := 13

/-- Width of the bit source's peek window (spec 00_scope.md R5, 90_conflicts.md C3). -/
def peekBits : Nat := 32

/-- `RUNCAP(W) = W + 2`, the most runs a row may hold (spec 00_scope.md R5). -/
def runCap (w : Nat) : Nat := w + 2

/-- `A0_LIMIT`, the bound on the coding position in Horizontal mode (spec 00_scope.md R5, 40_mmr_modes.md R171). -/
def a0Limit : Int := 131072

/-- The parameter `ZP` (OPEN, spec 92_eei_decisions.md D20; log 11). -/
opaque zp : Zp

/-- The state in which the ZP agent stands at power-on (OPEN, spec 44_jb2_direct.md R241; log 13). -/
opaque zpInit : Nat

/-- The parameter `CELL_INIT` (OPEN, spec 92_eei_decisions.md D21; log 12). -/
opaque cellInit : Nat

/-- The parameter `JB2_MAXW`, at most 2^31 - 1 (OPEN, spec 92_eei_decisions.md D18; log 12). -/
opaque jb2MaxW : BitVec 31

/-- The parameter `JB2_MAXH`, at most 2^31 - 1 (OPEN, spec 92_eei_decisions.md D18; log 12). -/
opaque jb2MaxH : BitVec 31

/-! Free values of the row-local registers between rows (spec 93_implementation_defined.md U3; log 7). Each is applied to the
state's counter `freeCount`. -/

/-- Free value of `A0`. -/
opaque freeA0 : Nat → BitVec 32

/-- Free value of `B1`. -/
opaque freeB1 : Nat → BitVec 32

/-- Free value of `PR`. -/
opaque freePr : Nat → BitVec 32

/-- Free value of `RLE`. -/
opaque freeRle : Nat → BitVec 32

/-- Free value of `COLOR`. -/
opaque freeColor : Nat → Bool

/-- Free value of `CWSTART`. -/
opaque freeCwstart : Nat → BitVec 35

/-! Free contents of the buffers that an error or EOFB leaves unspecified (spec 20_memory.md R82,
93_implementation_defined.md U5, U6; log 9). -/

/-- Free value of the run of `CUR` at an index (the second argument). -/
opaque freeRun : Nat → Nat → BitVec 18

/-- Free contents of `OUT`. -/
opaque freeOut : Nat → List Byte

/-- Free value of the pixel of `TB` at an index (the second argument). -/
opaque freePixel : Nat → Nat → Bool

/-! Free values of the JB2 working registers between commands (spec 93_implementation_defined.md U4; log 8). -/

/-- Free value of `X`. -/
opaque freeX : Nat → BitVec 32

/-- Free value of `Y`. -/
opaque freeY : Nat → BitVec 32

/-- Free value of `CTX`. -/
opaque freeCtx : Nat → BitVec 11

/-- Free value of `XD2C`. -/
opaque freeXd2c : Nat → BitVec 64

/-- Free value of `YD2C`. -/
opaque freeYd2c : Nat → BitVec 64

end Config

end Sys2Proof
end

