-- ==== Sys2Proof/Syntax.lean ====
section
/-! DEFINITION. The instructions of the block, whole: the nine command rows and the 226 codeword rows of the opcode table, and the
typed operands the commands take (spec 30_encoding.md R122).
-/
namespace Sys2Proof

/-- A colour: white is pixel value 0, black is 1 (spec 00_scope.md R8). -/
inductive Colour where
  | white
  | black
  deriving DecidableEq, Repr

/-- The opposite colour. -/
def Colour.other : Colour → Colour
  | .white => .black
  | .black => .white

/-- The pixel value of a colour as a bit: white 0, black 1 (spec 00_scope.md R8). -/
def Colour.toNat : Colour → Nat
  | .white => 0
  | .black => 1

/-- A bitmap of `w` columns and `h` rows. The pixel at column x, row y stands at index y * w + x; row 0 is the bottom row
(spec 00_scope.md R8, 20_memory.md R70); `true` is black. The spec gives pixel storage no byte order (20_memory.md R75), so the
index order is a convention of the model's (log 24). -/
structure Bitmap where
  w : Word
  h : Word
  px : List Bool
  deriving DecidableEq, Repr

/-- The bitmap with no pixel. -/
def Bitmap.empty : Bitmap := ⟨0, 0, []⟩

/-- The model bitmap's library bounding box (L, B, R, T), each a signed 32-bit integer (spec 10_state.md R34). -/
structure Box where
  left : Word
  bottom : Word
  right : Word
  top : Word
  deriving DecidableEq, Repr

/-- The instructions: the commands the host issues and the codewords of the stripe data. One constructor for each row of
spec/opcode_table.json. -/
inductive Instr where
  -- commands (spec 30_encoding.md R122)
  | mmrInit (s : List Byte)
  | mmrScanruns
  | mmrScanrle
  | jb2Direct (dw dh : Word)
  | jb2Cross (dw dh : Word) (mb : Bitmap) (box : Box)
  | ctxInit
  | writeCtrl (v : Word)
  | readReg (n : BitVec 8)
  | reserved (opcode : BitVec 8)
  -- mode codewords (spec 30_encoding.md R103)
  | p | h | v0 | vr1 | vr2 | vr3 | vl1 | vl2
  | vl3
  -- escapes (spec 30_encoding.md R113, R114)
  | eofb | unc
  -- uncompressed mode (spec 30_encoding.md R114); `ux` carries its tag bit T, the colour of the next run
  | u1 | u01 | u001 | u0001 | u00001 | u00000
  | ux (t : Colour)
  -- white terminating codes (spec 30_encoding.md R105)
  | wt0 | wt1 | wt2 | wt3 | wt4 | wt5 | wt6 | wt7
  | wt8 | wt9 | wt10 | wt11 | wt12 | wt13 | wt14 | wt15
  | wt16 | wt17 | wt18 | wt19 | wt20 | wt21 | wt22 | wt23
  | wt24 | wt25 | wt26 | wt27 | wt28 | wt29 | wt30 | wt31
  | wt32 | wt33 | wt34 | wt35 | wt36 | wt37 | wt38 | wt39
  | wt40 | wt41 | wt42 | wt43 | wt44 | wt45 | wt46 | wt47
  | wt48 | wt49 | wt50 | wt51 | wt52 | wt53 | wt54 | wt55
  | wt56 | wt57 | wt58 | wt59 | wt60 | wt61 | wt62 | wt63
  -- white makeup codes (spec 30_encoding.md R106)
  | wm64 | wm128 | wm192 | wm256 | wm320 | wm384 | wm448 | wm512
  | wm576 | wm640 | wm704 | wm768 | wm832 | wm896 | wm960 | wm1024
  | wm1088 | wm1152 | wm1216 | wm1280 | wm1344 | wm1408 | wm1472 | wm1536
  | wm1600 | wm1664 | wm1728
  -- extended makeup codes, white ROM (spec 30_encoding.md R109)
  | wx1792 | wx1856 | wx1920 | wx1984 | wx2048 | wx2112 | wx2176 | wx2240
  | wx2304 | wx2368 | wx2432 | wx2496 | wx2560
  -- black terminating codes (spec 30_encoding.md R107)
  | bt0 | bt1 | bt2 | bt3 | bt4 | bt5 | bt6 | bt7
  | bt8 | bt9 | bt10 | bt11 | bt12 | bt13 | bt14 | bt15
  | bt16 | bt17 | bt18 | bt19 | bt20 | bt21 | bt22 | bt23
  | bt24 | bt25 | bt26 | bt27 | bt28 | bt29 | bt30 | bt31
  | bt32 | bt33 | bt34 | bt35 | bt36 | bt37 | bt38 | bt39
  | bt40 | bt41 | bt42 | bt43 | bt44 | bt45 | bt46 | bt47
  | bt48 | bt49 | bt50 | bt51 | bt52 | bt53 | bt54 | bt55
  | bt56 | bt57 | bt58 | bt59 | bt60 | bt61 | bt62 | bt63
  -- black makeup codes (spec 30_encoding.md R108)
  | bm64 | bm128 | bm192 | bm256 | bm320 | bm384 | bm448 | bm512
  | bm576 | bm640 | bm704 | bm768 | bm832 | bm896 | bm960 | bm1024
  | bm1088 | bm1152 | bm1216 | bm1280 | bm1344 | bm1408 | bm1472 | bm1536
  | bm1600 | bm1664 | bm1728
  -- extended makeup codes, black ROM (spec 30_encoding.md R109)
  | bx1792 | bx1856 | bx1920 | bx1984 | bx2048 | bx2112 | bx2176 | bx2240
  | bx2304 | bx2368 | bx2432 | bx2496 | bx2560
  deriving DecidableEq, Repr

/-- The typed operands that come with a command's opcode: "operands are typed values, not bit fields" (the opcode table;
spec 30_encoding.md R122). -/
inductive Operands where
  | none
  | bytes (s : List Byte)
  | size (dw dh : Word)
  | cross (dw dh : Word) (mb : Bitmap) (box : Box)
  | value (v : Word)
  | regno (n : BitVec 8)
  deriving DecidableEq, Repr

/-- A command as the host issues it: an 8-bit opcode with typed operands (spec 30_encoding.md R122; log 1). -/
structure Command where
  opcode : BitVec 8
  operands : Operands
  deriving DecidableEq, Repr

end Sys2Proof
end

