-- ==== Sys2Proof/WellFormed.lean ====
section
/-! DEFINITION. Which terms of the syntax are instructions: the operand ranges that the command interface fixes.
-/
namespace Sys2Proof

/-- A bitmap holds exactly `w * h` pixels (spec 45_jb2_cross.md R269: "The model array holds exactly `MW × MH` pixels by
construction of the operand"). -/
def Bitmap.wf (b : Bitmap) : Bool := b.px.length == b.w.toNat * b.h.toNat

/-- An opcode that is reserved: 0x00 and 0x09-0xFF (spec 30_encoding.md R122, 46_control.md R293). -/
def reservedOpcode (op : BitVec 8) : Bool := op.toNat == 0 || Nat.ble 9 op.toNat

/-- The byte operand of MMR_INIT is at most 2^32 - 1 bytes long (spec 20_memory.md R60, 42_mmr_commands.md R210). -/
def streamOperandOk (s : List Byte) : Bool := Nat.blt s.length 4294967296

/-- Well-formed instructions. A codeword carries no operand but the tag bit of `ux`, so every codeword is well-formed. -/
def Instr.wellFormed : Instr → Bool
  | .mmrInit s => streamOperandOk s
  | .jb2Cross _ _ mb _ => mb.wf
  | .reserved op => reservedOpcode op
  | _ => true

end Sys2Proof
end

