-- ==== Sys2Proof/Decode.lean ====
section
/-! DEFINITION. Decoding and encoding. The decoder reads a command from its opcode and typed operands (spec 30_encoding.md R122) and a
codeword from the 32-bit peek window through a codebook (spec 30_encoding.md R101, R102): its tables hold the "ROM key" column
of the spec's tables. The encoder is written from the "bits" column of the same tables, so that the two can be held against
each other.
-/
namespace Sys2Proof

/-! ## Codebooks -/

/-- The codebooks (spec 30_encoding.md R100): the mode table, the two escapes that are recognised where it fails, the codes of
uncompressed mode, and the white and black run tables. Which one reads a position is decided by decoder state, never by the
stream (R115). -/
inductive Book where
  | mode
  | esc
  | unc
  | white
  | black
  deriving DecidableEq, Repr

/-- One entry of a codebook: the instruction, its ROM key (the code left-aligned in the lookup window), its length in bits, and
for a run codeword the run length it denotes (spec 30_encoding.md R101). -/
structure RomRow where
  instr : Instr
  key : Nat
  len : Nat
  value : Nat
  deriving DecidableEq, Repr

/-- `MODE_ROM` (nbits = 7), spec 30_encoding.md R103. Its values are the modes themselves; the `value` column is 0. -/
def modeRom : List RomRow :=
  [⟨.p, 0x08, 4, 0⟩, ⟨.h, 0x10, 3, 0⟩, ⟨.v0, 0x40, 1, 0⟩, ⟨.vr1, 0x30, 3, 0⟩,
   ⟨.vr2, 0x06, 6, 0⟩, ⟨.vr3, 0x03, 7, 0⟩, ⟨.vl1, 0x20, 3, 0⟩, ⟨.vl2, 0x04, 6, 0⟩,
   ⟨.vl3, 0x02, 7, 0⟩]

/-- White terminating codes, spec 30_encoding.md R105. -/
def whiteTerminating : List RomRow :=
  [⟨.wt0, 0x06a0, 8, 0⟩, ⟨.wt1, 0x0380, 6, 1⟩, ⟨.wt2, 0x0e00, 4, 2⟩, ⟨.wt3, 0x1000, 4, 3⟩,
   ⟨.wt4, 0x1600, 4, 4⟩, ⟨.wt5, 0x1800, 4, 5⟩, ⟨.wt6, 0x1c00, 4, 6⟩, ⟨.wt7, 0x1e00, 4, 7⟩,
   ⟨.wt8, 0x1300, 5, 8⟩, ⟨.wt9, 0x1400, 5, 9⟩, ⟨.wt10, 0x0700, 5, 10⟩, ⟨.wt11, 0x0800, 5, 11⟩,
   ⟨.wt12, 0x0400, 6, 12⟩, ⟨.wt13, 0x0180, 6, 13⟩, ⟨.wt14, 0x1a00, 6, 14⟩, ⟨.wt15, 0x1a80, 6, 15⟩,
   ⟨.wt16, 0x1500, 6, 16⟩, ⟨.wt17, 0x1580, 6, 17⟩, ⟨.wt18, 0x09c0, 7, 18⟩, ⟨.wt19, 0x0300, 7, 19⟩,
   ⟨.wt20, 0x0200, 7, 20⟩, ⟨.wt21, 0x05c0, 7, 21⟩, ⟨.wt22, 0x00c0, 7, 22⟩, ⟨.wt23, 0x0100, 7, 23⟩,
   ⟨.wt24, 0x0a00, 7, 24⟩, ⟨.wt25, 0x0ac0, 7, 25⟩, ⟨.wt26, 0x04c0, 7, 26⟩, ⟨.wt27, 0x0900, 7, 27⟩,
   ⟨.wt28, 0x0600, 7, 28⟩, ⟨.wt29, 0x0040, 8, 29⟩, ⟨.wt30, 0x0060, 8, 30⟩, ⟨.wt31, 0x0340, 8, 31⟩,
   ⟨.wt32, 0x0360, 8, 32⟩, ⟨.wt33, 0x0240, 8, 33⟩, ⟨.wt34, 0x0260, 8, 34⟩, ⟨.wt35, 0x0280, 8, 35⟩,
   ⟨.wt36, 0x02a0, 8, 36⟩, ⟨.wt37, 0x02c0, 8, 37⟩, ⟨.wt38, 0x02e0, 8, 38⟩, ⟨.wt39, 0x0500, 8, 39⟩,
   ⟨.wt40, 0x0520, 8, 40⟩, ⟨.wt41, 0x0540, 8, 41⟩, ⟨.wt42, 0x0560, 8, 42⟩, ⟨.wt43, 0x0580, 8, 43⟩,
   ⟨.wt44, 0x05a0, 8, 44⟩, ⟨.wt45, 0x0080, 8, 45⟩, ⟨.wt46, 0x00a0, 8, 46⟩, ⟨.wt47, 0x0140, 8, 47⟩,
   ⟨.wt48, 0x0160, 8, 48⟩, ⟨.wt49, 0x0a40, 8, 49⟩, ⟨.wt50, 0x0a60, 8, 50⟩, ⟨.wt51, 0x0a80, 8, 51⟩,
   ⟨.wt52, 0x0aa0, 8, 52⟩, ⟨.wt53, 0x0480, 8, 53⟩, ⟨.wt54, 0x04a0, 8, 54⟩, ⟨.wt55, 0x0b00, 8, 55⟩,
   ⟨.wt56, 0x0b20, 8, 56⟩, ⟨.wt57, 0x0b40, 8, 57⟩, ⟨.wt58, 0x0b60, 8, 58⟩, ⟨.wt59, 0x0940, 8, 59⟩,
   ⟨.wt60, 0x0960, 8, 60⟩, ⟨.wt61, 0x0640, 8, 61⟩, ⟨.wt62, 0x0660, 8, 62⟩, ⟨.wt63, 0x0680, 8, 63⟩]

/-- White makeup codes, spec 30_encoding.md R106. -/
def whiteMakeup : List RomRow :=
  [⟨.wm64, 0x1b00, 5, 64⟩, ⟨.wm128, 0x1200, 5, 128⟩, ⟨.wm192, 0x0b80, 6, 192⟩, ⟨.wm256, 0x0dc0, 7, 256⟩,
   ⟨.wm320, 0x06c0, 8, 320⟩, ⟨.wm384, 0x06e0, 8, 384⟩, ⟨.wm448, 0x0c80, 8, 448⟩, ⟨.wm512, 0x0ca0, 8, 512⟩,
   ⟨.wm576, 0x0d00, 8, 576⟩, ⟨.wm640, 0x0ce0, 8, 640⟩, ⟨.wm704, 0x0cc0, 9, 704⟩, ⟨.wm768, 0x0cd0, 9, 768⟩,
   ⟨.wm832, 0x0d20, 9, 832⟩, ⟨.wm896, 0x0d30, 9, 896⟩, ⟨.wm960, 0x0d40, 9, 960⟩, ⟨.wm1024, 0x0d50, 9, 1024⟩,
   ⟨.wm1088, 0x0d60, 9, 1088⟩, ⟨.wm1152, 0x0d70, 9, 1152⟩, ⟨.wm1216, 0x0d80, 9, 1216⟩, ⟨.wm1280, 0x0d90, 9, 1280⟩,
   ⟨.wm1344, 0x0da0, 9, 1344⟩, ⟨.wm1408, 0x0db0, 9, 1408⟩, ⟨.wm1472, 0x0980, 9, 1472⟩, ⟨.wm1536, 0x0990, 9, 1536⟩,
   ⟨.wm1600, 0x09a0, 9, 1600⟩, ⟨.wm1664, 0x0c00, 6, 1664⟩, ⟨.wm1728, 0x09b0, 9, 1728⟩]

/-- Extended makeup codes of the white ROM, spec 30_encoding.md R109. -/
def whiteExtended : List RomRow :=
  [⟨.wx1792, 0x0020, 11, 1792⟩, ⟨.wx1856, 0x0030, 11, 1856⟩, ⟨.wx1920, 0x0034, 11, 1920⟩, ⟨.wx1984, 0x0024, 12, 1984⟩,
   ⟨.wx2048, 0x0026, 12, 2048⟩, ⟨.wx2112, 0x0028, 12, 2112⟩, ⟨.wx2176, 0x002a, 12, 2176⟩, ⟨.wx2240, 0x002c, 12, 2240⟩,
   ⟨.wx2304, 0x002e, 12, 2304⟩, ⟨.wx2368, 0x0038, 12, 2368⟩, ⟨.wx2432, 0x003a, 12, 2432⟩, ⟨.wx2496, 0x003c, 12, 2496⟩,
   ⟨.wx2560, 0x003e, 12, 2560⟩]

/-- Black terminating codes, spec 30_encoding.md R107. -/
def blackTerminating : List RomRow :=
  [⟨.bt0, 0x01b8, 10, 0⟩, ⟨.bt1, 0x0800, 3, 1⟩, ⟨.bt2, 0x1800, 2, 2⟩, ⟨.bt3, 0x1000, 2, 3⟩,
   ⟨.bt4, 0x0c00, 3, 4⟩, ⟨.bt5, 0x0600, 4, 5⟩, ⟨.bt6, 0x0400, 4, 6⟩, ⟨.bt7, 0x0300, 5, 7⟩,
   ⟨.bt8, 0x0280, 6, 8⟩, ⟨.bt9, 0x0200, 6, 9⟩, ⟨.bt10, 0x0100, 7, 10⟩, ⟨.bt11, 0x0140, 7, 11⟩,
   ⟨.bt12, 0x01c0, 7, 12⟩, ⟨.bt13, 0x0080, 8, 13⟩, ⟨.bt14, 0x00e0, 8, 14⟩, ⟨.bt15, 0x0180, 9, 15⟩,
   ⟨.bt16, 0x00b8, 10, 16⟩, ⟨.bt17, 0x00c0, 10, 17⟩, ⟨.bt18, 0x0040, 10, 18⟩, ⟨.bt19, 0x019c, 11, 19⟩,
   ⟨.bt20, 0x01a0, 11, 20⟩, ⟨.bt21, 0x01b0, 11, 21⟩, ⟨.bt22, 0x00dc, 11, 22⟩, ⟨.bt23, 0x00a0, 11, 23⟩,
   ⟨.bt24, 0x005c, 11, 24⟩, ⟨.bt25, 0x0060, 11, 25⟩, ⟨.bt26, 0x0194, 12, 26⟩, ⟨.bt27, 0x0196, 12, 27⟩,
   ⟨.bt28, 0x0198, 12, 28⟩, ⟨.bt29, 0x019a, 12, 29⟩, ⟨.bt30, 0x00d0, 12, 30⟩, ⟨.bt31, 0x00d2, 12, 31⟩,
   ⟨.bt32, 0x00d4, 12, 32⟩, ⟨.bt33, 0x00d6, 12, 33⟩, ⟨.bt34, 0x01a4, 12, 34⟩, ⟨.bt35, 0x01a6, 12, 35⟩,
   ⟨.bt36, 0x01a8, 12, 36⟩, ⟨.bt37, 0x01aa, 12, 37⟩, ⟨.bt38, 0x01ac, 12, 38⟩, ⟨.bt39, 0x01ae, 12, 39⟩,
   ⟨.bt40, 0x00d8, 12, 40⟩, ⟨.bt41, 0x00da, 12, 41⟩, ⟨.bt42, 0x01b4, 12, 42⟩, ⟨.bt43, 0x01b6, 12, 43⟩,
   ⟨.bt44, 0x00a8, 12, 44⟩, ⟨.bt45, 0x00aa, 12, 45⟩, ⟨.bt46, 0x00ac, 12, 46⟩, ⟨.bt47, 0x00ae, 12, 47⟩,
   ⟨.bt48, 0x00c8, 12, 48⟩, ⟨.bt49, 0x00ca, 12, 49⟩, ⟨.bt50, 0x00a4, 12, 50⟩, ⟨.bt51, 0x00a6, 12, 51⟩,
   ⟨.bt52, 0x0048, 12, 52⟩, ⟨.bt53, 0x006e, 12, 53⟩, ⟨.bt54, 0x0070, 12, 54⟩, ⟨.bt55, 0x004e, 12, 55⟩,
   ⟨.bt56, 0x0050, 12, 56⟩, ⟨.bt57, 0x00b0, 12, 57⟩, ⟨.bt58, 0x00b2, 12, 58⟩, ⟨.bt59, 0x0056, 12, 59⟩,
   ⟨.bt60, 0x0058, 12, 60⟩, ⟨.bt61, 0x00b4, 12, 61⟩, ⟨.bt62, 0x00cc, 12, 62⟩, ⟨.bt63, 0x00ce, 12, 63⟩]

/-- Black makeup codes, spec 30_encoding.md R108. -/
def blackMakeup : List RomRow :=
  [⟨.bm64, 0x0078, 10, 64⟩, ⟨.bm128, 0x0190, 12, 128⟩, ⟨.bm192, 0x0192, 12, 192⟩, ⟨.bm256, 0x00b6, 12, 256⟩,
   ⟨.bm320, 0x0066, 12, 320⟩, ⟨.bm384, 0x0068, 12, 384⟩, ⟨.bm448, 0x006a, 12, 448⟩, ⟨.bm512, 0x006c, 13, 512⟩,
   ⟨.bm576, 0x006d, 13, 576⟩, ⟨.bm640, 0x004a, 13, 640⟩, ⟨.bm704, 0x004b, 13, 704⟩, ⟨.bm768, 0x004c, 13, 768⟩,
   ⟨.bm832, 0x004d, 13, 832⟩, ⟨.bm896, 0x0072, 13, 896⟩, ⟨.bm960, 0x0073, 13, 960⟩, ⟨.bm1024, 0x0074, 13, 1024⟩,
   ⟨.bm1088, 0x0075, 13, 1088⟩, ⟨.bm1152, 0x0076, 13, 1152⟩, ⟨.bm1216, 0x0077, 13, 1216⟩, ⟨.bm1280, 0x0052, 13, 1280⟩,
   ⟨.bm1344, 0x0053, 13, 1344⟩, ⟨.bm1408, 0x0054, 13, 1408⟩, ⟨.bm1472, 0x0055, 13, 1472⟩, ⟨.bm1536, 0x005a, 13, 1536⟩,
   ⟨.bm1600, 0x005b, 13, 1600⟩, ⟨.bm1664, 0x0064, 13, 1664⟩, ⟨.bm1728, 0x0065, 13, 1728⟩]

/-- Extended makeup codes of the black ROM, spec 30_encoding.md R109. -/
def blackExtended : List RomRow :=
  [⟨.bx1792, 0x0020, 11, 1792⟩, ⟨.bx1856, 0x0030, 11, 1856⟩, ⟨.bx1920, 0x0034, 11, 1920⟩, ⟨.bx1984, 0x0024, 12, 1984⟩,
   ⟨.bx2048, 0x0026, 12, 2048⟩, ⟨.bx2112, 0x0028, 12, 2112⟩, ⟨.bx2176, 0x002a, 12, 2176⟩, ⟨.bx2240, 0x002c, 12, 2240⟩,
   ⟨.bx2304, 0x002e, 12, 2304⟩, ⟨.bx2368, 0x0038, 12, 2368⟩, ⟨.bx2432, 0x003a, 12, 2432⟩, ⟨.bx2496, 0x003c, 12, 2496⟩,
   ⟨.bx2560, 0x003e, 12, 2560⟩]

/-- `WHITE_ROM`, 104 entries (spec 30_encoding.md R109). -/
def whiteRom : List RomRow := whiteTerminating ++ whiteMakeup ++ whiteExtended

/-- `BLACK_ROM`, 104 entries (spec 30_encoding.md R109). -/
def blackRom : List RomRow := blackTerminating ++ blackMakeup ++ blackExtended

/-- The run table of a colour (spec 30_encoding.md R115). -/
def runRom : Colour → List RomRow
  | .white => whiteRom
  | .black => blackRom

/-- The book of a colour's run table. -/
def runBook : Colour → Book
  | .white => .white
  | .black => .black

/-! ## Decoding a window -/

/-- `Peek(n)` as read from the 32-bit window: `Peek(n) = Peek(32) >> (32 - n)` (spec 20_memory.md R64). -/
def topBits (n : Nat) (window : BitVec 32) : Nat := window.toNat >>> (Config.peekBits - n)

/-- Slot i of an nbits-wide table belongs to the entry whose key starts its `2^(nbits - len)` consecutive slots
(spec 30_encoding.md R101). -/
def RomRow.covers (nbits i : Nat) (r : RomRow) : Bool :=
  Nat.ble r.key i && Nat.blt i (r.key + 2 ^ (nbits - r.len))

/-- The entry of slot i, or `none` for the sentinel `NOMATCH` (spec 30_encoding.md R101). -/
def romSlot (rom : List RomRow) (nbits i : Nat) : Option RomRow := rom.find? (RomRow.covers nbits i)

/-- The lookup half of `VLC(ROM, nbits)` (spec 30_encoding.md R102): which codeword the window starts with. -/
def romLookup (rom : List RomRow) (nbits : Nat) (window : BitVec 32) : Option Instr :=
  (romSlot rom nbits (topBits nbits window)).map RomRow.instr

/-- The two escapes (spec 30_encoding.md R113, R114; the order of 41_mmr_escapes.md R190). -/
def decodeEscape (window : BitVec 32) : Option Instr :=
  if topBits 24 window = 0x001001 then some .eofb
  else if topBits 10 window = 0x00f then some .unc
  else none

/-- The codes of uncompressed mode (spec 30_encoding.md R114, 41_mmr_escapes.md R193, R198): six zeros start an exit code, which is
only `0000001T`; `000001` is five whites; any other window starts with a literal code. -/
def decodeUncompressed (window : BitVec 32) : Option Instr :=
  if topBits 6 window = 0b000000 then
    if topBits 8 window = 0b00000010 then some (.ux .white)
    else if topBits 8 window = 0b00000011 then some (.ux .black)
    else none
  else if topBits 6 window = 0b000001 then some .u00000
  else if topBits 1 window = 0b1 then some .u1
  else if topBits 2 window = 0b01 then some .u01
  else if topBits 3 window = 0b001 then some .u001
  else if topBits 4 window = 0b0001 then some .u0001
  else some .u00001

/-- The codeword a window starts with in one codebook, or `none` for NOMATCH. -/
def decodeBook : Book → BitVec 32 → Option Instr
  | .mode => romLookup modeRom Config.modeNbits
  | .esc => decodeEscape
  | .unc => decodeUncompressed
  | .white => romLookup whiteRom Config.runNbits
  | .black => romLookup blackRom Config.runNbits

/-- The codeword a window starts with at a position that tries several codebooks in order (at the mode position the escapes
come after MODE_ROM, spec 41_mmr_escapes.md R190). -/
def decodeWindow (books : List Book) (window : BitVec 32) : Option Instr :=
  books.findSome? fun b => decodeBook b window

/-! ## Decoding a command -/

/-- Why the decoder reads no instruction. -/
inductive DecodeError where
  /-- The operands are not of the type that the opcode takes. -/
  | operandType (opcode : BitVec 8)
  /-- An operand is outside its range (a byte operand of 2^32 bytes or more, a bitmap without its w * h pixels). -/
  | operandRange (opcode : BitVec 8)
  /-- No codeword of the codebooks of the position starts the window (NOMATCH). -/
  | noMatch
  deriving DecidableEq, Repr

/-- The instruction that an opcode and operands name when their types fit, before the range check
(spec 30_encoding.md R122; a reserved opcode takes any operands, 46_control.md R293). -/
def commandInstr (c : Command) : Option Instr :=
  if reservedOpcode c.opcode then some (.reserved c.opcode)
  else
    match c.operands with
    | .bytes s => if c.opcode = 0x01 then some (.mmrInit s) else none
    | .none =>
      if c.opcode = 0x02 then some .mmrScanruns
      else if c.opcode = 0x03 then some .mmrScanrle
      else if c.opcode = 0x06 then some .ctxInit
      else none
    | .size dw dh => if c.opcode = 0x04 then some (.jb2Direct dw dh) else none
    | .cross dw dh mb box => if c.opcode = 0x05 then some (.jb2Cross dw dh mb box) else none
    | .value v => if c.opcode = 0x07 then some (.writeCtrl v) else none
    | .regno n => if c.opcode = 0x08 then some (.readReg n) else none

/-- Decode a command (spec 30_encoding.md R122). -/
def decodeCommand (c : Command) : Except DecodeError Instr :=
  match commandInstr c with
  | none => .error (.operandType c.opcode)
  | some i => if i.wellFormed then .ok i else .error (.operandRange c.opcode)

/-- What the fetch hands to the decoder: a command, or the peek window with the codebooks of the position. -/
inductive Source where
  | command (c : Command)
  | window (books : List Book) (w : BitVec 32)
  deriving DecidableEq, Repr

/-- The decoder, total on every source and rejecting by name. -/
def decode : Source → Except DecodeError Instr
  | .command c => decodeCommand c
  | .window books w =>
    match decodeWindow books w with
    | some i => .ok i
    | none => .error .noMatch

/-! ## Encoding -/

/-- The encoding of an instruction: a command, or a codeword of a codebook with its bits (first bit most significant) and its
length. -/
inductive Encoded where
  | command (c : Command)
  | codeword (book : Book) (code len : Nat)
  deriving DecidableEq, Repr

/-- The encoder, from the opcode column of spec 30_encoding.md R122 and the bits columns of R103, R105-R109, R113, R114. -/
def encode : Instr → Encoded
  | .mmrInit s => .command ⟨0x01, .bytes s⟩
  | .mmrScanruns => .command ⟨0x02, .none⟩
  | .mmrScanrle => .command ⟨0x03, .none⟩
  | .jb2Direct dw dh => .command ⟨0x04, .size dw dh⟩
  | .jb2Cross dw dh mb box => .command ⟨0x05, .cross dw dh mb box⟩
  | .ctxInit => .command ⟨0x06, .none⟩
  | .writeCtrl v => .command ⟨0x07, .value v⟩
  | .readReg n => .command ⟨0x08, .regno n⟩
  | .reserved op => .command ⟨op, .none⟩
  | .p => .codeword .mode 0b0001 4
  | .h => .codeword .mode 0b001 3
  | .v0 => .codeword .mode 0b1 1
  | .vr1 => .codeword .mode 0b011 3
  | .vr2 => .codeword .mode 0b000011 6
  | .vr3 => .codeword .mode 0b0000011 7
  | .vl1 => .codeword .mode 0b010 3
  | .vl2 => .codeword .mode 0b000010 6
  | .vl3 => .codeword .mode 0b0000010 7
  | .eofb => .codeword .esc 0b000000000001000000000001 24
  | .unc => .codeword .esc 0b0000001111 10
  | .u1 => .codeword .unc 0b1 1
  | .u01 => .codeword .unc 0b01 2
  | .u001 => .codeword .unc 0b001 3
  | .u0001 => .codeword .unc 0b0001 4
  | .u00001 => .codeword .unc 0b00001 5
  | .u00000 => .codeword .unc 0b000001 6
  | .wt0 => .codeword .white 0b00110101 8
  | .wt1 => .codeword .white 0b000111 6
  | .wt2 => .codeword .white 0b0111 4
  | .wt3 => .codeword .white 0b1000 4
  | .wt4 => .codeword .white 0b1011 4
  | .wt5 => .codeword .white 0b1100 4
  | .wt6 => .codeword .white 0b1110 4
  | .wt7 => .codeword .white 0b1111 4
  | .wt8 => .codeword .white 0b10011 5
  | .wt9 => .codeword .white 0b10100 5
  | .wt10 => .codeword .white 0b00111 5
  | .wt11 => .codeword .white 0b01000 5
  | .wt12 => .codeword .white 0b001000 6
  | .wt13 => .codeword .white 0b000011 6
  | .wt14 => .codeword .white 0b110100 6
  | .wt15 => .codeword .white 0b110101 6
  | .wt16 => .codeword .white 0b101010 6
  | .wt17 => .codeword .white 0b101011 6
  | .wt18 => .codeword .white 0b0100111 7
  | .wt19 => .codeword .white 0b0001100 7
  | .wt20 => .codeword .white 0b0001000 7
  | .wt21 => .codeword .white 0b0010111 7
  | .wt22 => .codeword .white 0b0000011 7
  | .wt23 => .codeword .white 0b0000100 7
  | .wt24 => .codeword .white 0b0101000 7
  | .wt25 => .codeword .white 0b0101011 7
  | .wt26 => .codeword .white 0b0010011 7
  | .wt27 => .codeword .white 0b0100100 7
  | .wt28 => .codeword .white 0b0011000 7
  | .wt29 => .codeword .white 0b00000010 8
  | .wt30 => .codeword .white 0b00000011 8
  | .wt31 => .codeword .white 0b00011010 8
  | .wt32 => .codeword .white 0b00011011 8
  | .wt33 => .codeword .white 0b00010010 8
  | .wt34 => .codeword .white 0b00010011 8
  | .wt35 => .codeword .white 0b00010100 8
  | .wt36 => .codeword .white 0b00010101 8
  | .wt37 => .codeword .white 0b00010110 8
  | .wt38 => .codeword .white 0b00010111 8
  | .wt39 => .codeword .white 0b00101000 8
  | .wt40 => .codeword .white 0b00101001 8
  | .wt41 => .codeword .white 0b00101010 8
  | .wt42 => .codeword .white 0b00101011 8
  | .wt43 => .codeword .white 0b00101100 8
  | .wt44 => .codeword .white 0b00101101 8
  | .wt45 => .codeword .white 0b00000100 8
  | .wt46 => .codeword .white 0b00000101 8
  | .wt47 => .codeword .white 0b00001010 8
  | .wt48 => .codeword .white 0b00001011 8
  | .wt49 => .codeword .white 0b01010010 8
  | .wt50 => .codeword .white 0b01010011 8
  | .wt51 => .codeword .white 0b01010100 8
  | .wt52 => .codeword .white 0b01010101 8
  | .wt53 => .codeword .white 0b00100100 8
  | .wt54 => .codeword .white 0b00100101 8
  | .wt55 => .codeword .white 0b01011000 8
  | .wt56 => .codeword .white 0b01011001 8
  | .wt57 => .codeword .white 0b01011010 8
  | .wt58 => .codeword .white 0b01011011 8
  | .wt59 => .codeword .white 0b01001010 8
  | .wt60 => .codeword .white 0b01001011 8
  | .wt61 => .codeword .white 0b00110010 8
  | .wt62 => .codeword .white 0b00110011 8
  | .wt63 => .codeword .white 0b00110100 8
  | .wm64 => .codeword .white 0b11011 5
  | .wm128 => .codeword .white 0b10010 5
  | .wm192 => .codeword .white 0b010111 6
  | .wm256 => .codeword .white 0b0110111 7
  | .wm320 => .codeword .white 0b00110110 8
  | .wm384 => .codeword .white 0b00110111 8
  | .wm448 => .codeword .white 0b01100100 8
  | .wm512 => .codeword .white 0b01100101 8
  | .wm576 => .codeword .white 0b01101000 8
  | .wm640 => .codeword .white 0b01100111 8
  | .wm704 => .codeword .white 0b011001100 9
  | .wm768 => .codeword .white 0b011001101 9
  | .wm832 => .codeword .white 0b011010010 9
  | .wm896 => .codeword .white 0b011010011 9
  | .wm960 => .codeword .white 0b011010100 9
  | .wm1024 => .codeword .white 0b011010101 9
  | .wm1088 => .codeword .white 0b011010110 9
  | .wm1152 => .codeword .white 0b011010111 9
  | .wm1216 => .codeword .white 0b011011000 9
  | .wm1280 => .codeword .white 0b011011001 9
  | .wm1344 => .codeword .white 0b011011010 9
  | .wm1408 => .codeword .white 0b011011011 9
  | .wm1472 => .codeword .white 0b010011000 9
  | .wm1536 => .codeword .white 0b010011001 9
  | .wm1600 => .codeword .white 0b010011010 9
  | .wm1664 => .codeword .white 0b011000 6
  | .wm1728 => .codeword .white 0b010011011 9
  | .wx1792 => .codeword .white 0b00000001000 11
  | .wx1856 => .codeword .white 0b00000001100 11
  | .wx1920 => .codeword .white 0b00000001101 11
  | .wx1984 => .codeword .white 0b000000010010 12
  | .wx2048 => .codeword .white 0b000000010011 12
  | .wx2112 => .codeword .white 0b000000010100 12
  | .wx2176 => .codeword .white 0b000000010101 12
  | .wx2240 => .codeword .white 0b000000010110 12
  | .wx2304 => .codeword .white 0b000000010111 12
  | .wx2368 => .codeword .white 0b000000011100 12
  | .wx2432 => .codeword .white 0b000000011101 12
  | .wx2496 => .codeword .white 0b000000011110 12
  | .wx2560 => .codeword .white 0b000000011111 12
  | .bt0 => .codeword .black 0b0000110111 10
  | .bt1 => .codeword .black 0b010 3
  | .bt2 => .codeword .black 0b11 2
  | .bt3 => .codeword .black 0b10 2
  | .bt4 => .codeword .black 0b011 3
  | .bt5 => .codeword .black 0b0011 4
  | .bt6 => .codeword .black 0b0010 4
  | .bt7 => .codeword .black 0b00011 5
  | .bt8 => .codeword .black 0b000101 6
  | .bt9 => .codeword .black 0b000100 6
  | .bt10 => .codeword .black 0b0000100 7
  | .bt11 => .codeword .black 0b0000101 7
  | .bt12 => .codeword .black 0b0000111 7
  | .bt13 => .codeword .black 0b00000100 8
  | .bt14 => .codeword .black 0b00000111 8
  | .bt15 => .codeword .black 0b000011000 9
  | .bt16 => .codeword .black 0b0000010111 10
  | .bt17 => .codeword .black 0b0000011000 10
  | .bt18 => .codeword .black 0b0000001000 10
  | .bt19 => .codeword .black 0b00001100111 11
  | .bt20 => .codeword .black 0b00001101000 11
  | .bt21 => .codeword .black 0b00001101100 11
  | .bt22 => .codeword .black 0b00000110111 11
  | .bt23 => .codeword .black 0b00000101000 11
  | .bt24 => .codeword .black 0b00000010111 11
  | .bt25 => .codeword .black 0b00000011000 11
  | .bt26 => .codeword .black 0b000011001010 12
  | .bt27 => .codeword .black 0b000011001011 12
  | .bt28 => .codeword .black 0b000011001100 12
  | .bt29 => .codeword .black 0b000011001101 12
  | .bt30 => .codeword .black 0b000001101000 12
  | .bt31 => .codeword .black 0b000001101001 12
  | .bt32 => .codeword .black 0b000001101010 12
  | .bt33 => .codeword .black 0b000001101011 12
  | .bt34 => .codeword .black 0b000011010010 12
  | .bt35 => .codeword .black 0b000011010011 12
  | .bt36 => .codeword .black 0b000011010100 12
  | .bt37 => .codeword .black 0b000011010101 12
  | .bt38 => .codeword .black 0b000011010110 12
  | .bt39 => .codeword .black 0b000011010111 12
  | .bt40 => .codeword .black 0b000001101100 12
  | .bt41 => .codeword .black 0b000001101101 12
  | .bt42 => .codeword .black 0b000011011010 12
  | .bt43 => .codeword .black 0b000011011011 12
  | .bt44 => .codeword .black 0b000001010100 12
  | .bt45 => .codeword .black 0b000001010101 12
  | .bt46 => .codeword .black 0b000001010110 12
  | .bt47 => .codeword .black 0b000001010111 12
  | .bt48 => .codeword .black 0b000001100100 12
  | .bt49 => .codeword .black 0b000001100101 12
  | .bt50 => .codeword .black 0b000001010010 12
  | .bt51 => .codeword .black 0b000001010011 12
  | .bt52 => .codeword .black 0b000000100100 12
  | .bt53 => .codeword .black 0b000000110111 12
  | .bt54 => .codeword .black 0b000000111000 12
  | .bt55 => .codeword .black 0b000000100111 12
  | .bt56 => .codeword .black 0b000000101000 12
  | .bt57 => .codeword .black 0b000001011000 12
  | .bt58 => .codeword .black 0b000001011001 12
  | .bt59 => .codeword .black 0b000000101011 12
  | .bt60 => .codeword .black 0b000000101100 12
  | .bt61 => .codeword .black 0b000001011010 12
  | .bt62 => .codeword .black 0b000001100110 12
  | .bt63 => .codeword .black 0b000001100111 12
  | .bm64 => .codeword .black 0b0000001111 10
  | .bm128 => .codeword .black 0b000011001000 12
  | .bm192 => .codeword .black 0b000011001001 12
  | .bm256 => .codeword .black 0b000001011011 12
  | .bm320 => .codeword .black 0b000000110011 12
  | .bm384 => .codeword .black 0b000000110100 12
  | .bm448 => .codeword .black 0b000000110101 12
  | .bm512 => .codeword .black 0b0000001101100 13
  | .bm576 => .codeword .black 0b0000001101101 13
  | .bm640 => .codeword .black 0b0000001001010 13
  | .bm704 => .codeword .black 0b0000001001011 13
  | .bm768 => .codeword .black 0b0000001001100 13
  | .bm832 => .codeword .black 0b0000001001101 13
  | .bm896 => .codeword .black 0b0000001110010 13
  | .bm960 => .codeword .black 0b0000001110011 13
  | .bm1024 => .codeword .black 0b0000001110100 13
  | .bm1088 => .codeword .black 0b0000001110101 13
  | .bm1152 => .codeword .black 0b0000001110110 13
  | .bm1216 => .codeword .black 0b0000001110111 13
  | .bm1280 => .codeword .black 0b0000001010010 13
  | .bm1344 => .codeword .black 0b0000001010011 13
  | .bm1408 => .codeword .black 0b0000001010100 13
  | .bm1472 => .codeword .black 0b0000001010101 13
  | .bm1536 => .codeword .black 0b0000001011010 13
  | .bm1600 => .codeword .black 0b0000001011011 13
  | .bm1664 => .codeword .black 0b0000001100100 13
  | .bm1728 => .codeword .black 0b0000001100101 13
  | .bx1792 => .codeword .black 0b00000001000 11
  | .bx1856 => .codeword .black 0b00000001100 11
  | .bx1920 => .codeword .black 0b00000001101 11
  | .bx1984 => .codeword .black 0b000000010010 12
  | .bx2048 => .codeword .black 0b000000010011 12
  | .bx2112 => .codeword .black 0b000000010100 12
  | .bx2176 => .codeword .black 0b000000010101 12
  | .bx2240 => .codeword .black 0b000000010110 12
  | .bx2304 => .codeword .black 0b000000010111 12
  | .bx2368 => .codeword .black 0b000000011100 12
  | .bx2432 => .codeword .black 0b000000011101 12
  | .bx2496 => .codeword .black 0b000000011110 12
  | .bx2560 => .codeword .black 0b000000011111 12
  | .ux t => .codeword .unc (0b00000010 + t.toNat) 8

/-- The codeword's length in bits; 0 for a command. -/
def Encoded.length : Encoded → Nat
  | .command _ => 0
  | .codeword _ _ len => len

/-- A codeword left-aligned in the 32-bit window with zero bits after it: how the opcode table writes its rows. -/
def Encoded.tableWindow : Encoded → Option (BitVec 32)
  | .command _ => none
  | .codeword _ code len => some (BitVec.ofNat 32 (code <<< (Config.peekBits - len)))

/-- The books at the position where a codebook's words are fetched: the escapes stand after MODE_ROM
(spec 41_mmr_escapes.md R190). -/
def Book.position : Book → List Book
  | .mode => [.mode, .esc]
  | .esc => [.mode, .esc]
  | b => [b]

/-! ## Assembling streams (spec 30_encoding.md R112, R116, R117, R124) -/

/-- The `len` low bits of `code`, most significant first. -/
def codeBits (code : Nat) : Nat → List Bool
  | 0 => []
  | len + 1 => code.testBit len :: codeBits code len

/-- The bits of a codeword in stream order; a command has none. -/
def Instr.bits (i : Instr) : List Bool :=
  match encode i with
  | .command _ => []
  | .codeword _ code len => codeBits code len

/-- The byte that up to eight bits make, most significant bit first, padded with 0 bits (spec 30_encoding.md R124). -/
def packByte (bits : List Bool) : Byte :=
  BitVec.ofNat 8 ((List.range 8).foldl (fun n k => 2 * n + (bits.getD k false).toNat) 0)

/-- Pack bits into bytes, most significant bit first; the last byte is padded with 0 bits (spec 30_encoding.md R124). The first
argument bounds the number of bytes. -/
def packBits : Nat → List Bool → List Byte
  | _, [] => []
  | 0, _ => []
  | n + 1, bits => packByte (bits.take 8) :: packBits n (bits.drop 8)

/-- The stripe data that a list of codewords assembles to (spec 30_encoding.md R124). -/
def assemble (is : List Instr) : List Byte :=
  let bits := is.flatMap Instr.bits
  packBits bits.length bits

/-- A big-endian 16-bit field (spec 20_memory.md R62). -/
def be16 (v : BitVec 16) : List Byte := [v.extractLsb' 8 8, v.extractLsb' 0 8]

/-- A big-endian 32-bit field (spec 20_memory.md R62). -/
def be32 (v : BitVec 32) : List Byte :=
  [v.extractLsb' 24 8, v.extractLsb' 16 8, v.extractLsb' 8 8, v.extractLsb' 0 8]

/-- The `Smmr` header bytes (spec 30_encoding.md R116): `M`, `M`, `R`, the flag byte, width, height, and rows per stripe when
striped. -/
def headerBytes (w h : BitVec 16) (invert : Bool) (stripes : Option (BitVec 16)) : List Byte :=
  [0x4d, 0x4d, 0x52, BitVec.ofNat 8 (invert.toNat + 2 * stripes.isSome.toNat)] ++ be16 w ++ be16 h ++
    (match stripes with | none => [] | some rps => be16 rps)

/-- One stripe: its big-endian byte length and its data (spec 30_encoding.md R117). -/
def stripeBytes (data : List Byte) : List Byte := be32 (BitVec.ofNat 32 data.length) ++ data

/-- The entry of a colour's table that denotes a value. -/
def runEntry (c : Colour) (v : Nat) : List Instr :=
  ((runRom c).filter fun r => r.value == v).map RomRow.instr

/-- The tail of `Expand(c, n)` for n below 2624: at most one makeup code, then one terminating code
(spec 30_encoding.md R112). -/
def expandTail (c : Colour) (n : Nat) : List Instr :=
  if n < 64 then runEntry c n else runEntry c (64 * (n / 64)) ++ runEntry c (n % 64)

/-- `Expand(c, n)`, the canonical chain of a run length (spec 30_encoding.md R112); the first argument bounds the number of
2560-codes. -/
def expandWith (c : Colour) : Nat → Nat → List Instr
  | 0, n => expandTail c n
  | k + 1, n => if 2624 ≤ n then runEntry c 2560 ++ expandWith c k (n - 2560) else expandTail c n

/-- `Expand(c, n)` (spec 30_encoding.md R112). -/
def expandRun (c : Colour) (n : Nat) : List Instr := expandWith c (n / 2560) n

/-! ## The opcode table's words -/

/-- Operands of zeros of the type an opcode takes. -/
def zeroOperands (op : BitVec 8) : Operands :=
  match op.toNat with
  | 0x01 => .bytes []
  | 0x04 => .size 0 0
  | 0x05 => .cross 0 0 Bitmap.empty ⟨0, 0, 0, 0⟩
  | 0x07 => .value 0
  | 0x08 => .regno 0
  | _ => .none

/-- The codebooks in the order in which `decodeTableWord` tries them. -/
def allBooks : List Book := [.mode, .esc, .unc, .white, .black]

/-- A book's reading of a window when that codeword, with zero bits after it, is the whole window. -/
def exactReading (w : BitVec 32) (b : Book) : Option Instr :=
  match decodeBook b w with
  | some i => if (encode i).tableWindow = some w then some i else none
  | none => none

/-- The instruction the decoder reads from a word of the opcode table. A row of at most 8 bits is a command's opcode byte, with
operands of zeros. A longer row is the 32-bit peek window with the codeword left-aligned at bit 31. WHICH CODEBOOK APPLIES IS
DECODER STATE and not in the word (spec 30_encoding.md R115): the first book in the order of `allBooks` that reads the word as
one of its codewords followed by zeros only is taken, and where there is none the first book that reads it at all
(DESIGN CHOICE, log 20). -/
def decodeTableWord (nbits w : Nat) : Option Instr :=
  if nbits ≤ 8 then
    match decodeCommand ⟨BitVec.ofNat 8 w, zeroOperands (BitVec.ofNat 8 w)⟩ with
    | .ok i => some i
    | .error _ => none
  else
    match allBooks.findSome? (exactReading (BitVec.ofNat 32 w)) with
    | some i => some i
    | none => decodeWindow allBooks (BitVec.ofNat 32 w)

end Sys2Proof
end

