-- ==== Sys2Proof/Machine/State.lean ====
section
/-! DEFINITION. The state of the block as plain data: every register, buffer and memory that spec 10_state.md gives it, the state of
the ZP agent and the stream S beside it (R37), and the model's own sequencing fields. INVENTORY.md lists each with its rule.
-/
namespace Sys2Proof.Machine

/-- The error codes (spec 60_exceptions.md R300). Codes 4 and 5 exist and are never raised (R304, R305); 9-15 are reserved. -/
inductive ErrCode where
  /-- Code 0: no error. -/
  | noError
  | unexpectedEndOfStream
  | corruptMMRStream
  | corruptJB2Stream
  | badCodebook
  | badDictionary
  | noStartRecord
  | badMMRHeader
  | illegalCommand
  deriving DecidableEq, Repr

/-- The states of the MMR unit (spec 10_state.md R29). -/
inductive MmrState where
  | unconf
  | active
  | done
  | failed
  deriving DecidableEq, Repr

/-- Where the sequencer stands: between commands, inside a scan command at the position that the next codeword is read from
(spec 30_encoding.md R115, 40_mmr_modes.md R152, R154, R167, 41_mmr_escapes.md R193), or inside a JB2 command at a ZP request
that is never answered (70_reset_and_hazards.md R349; log 2, 11). -/
inductive Position where
  /-- No command is being run; the block waits for the host. -/
  | idle
  /-- The mode position of the row loop. -/
  | mode
  /-- The first run of Horizontal mode, of colour `COLOR`. -/
  | run1
  /-- The second run of Horizontal mode, of the opposite colour. -/
  | run2
  /-- Inside uncompressed mode. -/
  | unc
  /-- The trailing-run check at row end. -/
  | trailing
  /-- The JB2 command waits for the response to a ZP request, for ever. -/
  | zpWait
  deriving DecidableEq, Repr

/-- Which scan command is being run (spec 42_mmr_commands.md R215, R218). -/
inductive ScanKind where
  | runs
  | rle
  deriving DecidableEq, Repr

/-- The payload of an `Ok` result (spec 30_encoding.md R122). -/
inductive Payload where
  | unit
  | runs (l : List Nat)
  | bytes (b : List Byte)
  | value (v : BitVec 64)
  deriving DecidableEq, Repr

/-- The result of a command (spec 00_scope.md R10). -/
inductive CmdResult where
  | ok (p : Payload)
  | noLine
  | err (e : ErrCode)
  deriving DecidableEq, Repr

/-- The model bitmap of a cross-coding command with its bounding box (spec 10_state.md R34). -/
structure Model where
  mb : Bitmap
  box : Box
  deriving DecidableEq, Repr

/-- What the host puts to the block (spec 46_control.md R294, 70_reset_and_hazards.md R340, R346; log 14, 15). -/
inductive HostEvent where
  /-- A command. -/
  | command (c : Command)
  /-- The reset event. -/
  | reset
  /-- The host starts the ZP agent in the state `z0`. -/
  | zpStart (z0 : Nat)
  deriving DecidableEq, Repr

/-- The state. Register names and widths as in spec 10_state.md; TW and TH are `tb.w` and `tb.h`, NREF and NRUN the lengths of
`ref` and `cur`. The working registers that the rules compute with as mathematical integers (R6, R27, R35) are `Int` or `Nat`;
the widths of R27 are kept by the rules and are not enforced here (log 16). -/
structure State where
  /-- `CTRL.OVR_CLAMP` (R21). -/
  ovrClamp : Bool
  /-- `MMR_STATE` (R29). -/
  mmrState : MmrState
  /-- `JB2_FAILED` (R36). -/
  jb2Failed : Bool
  /-- `MMR_ERR` (R22). -/
  mmrErr : ErrCode
  /-- `JB2_ERR` (R22). -/
  jb2Err : ErrCode
  /-- `LAST_ERR` (R22). -/
  lastErr : ErrCode
  /-- `MMR_WIDTH`, W (R23). -/
  width : BitVec 16
  /-- `MMR_HEIGHT`, H (R23). -/
  height : BitVec 16
  /-- `MMR_FLAGS`: bit 0 INVERT, bit 1 STRIPED (R23). -/
  flags : BitVec 2
  /-- `MMR_RPS` (R23). -/
  rps : BitVec 16
  /-- `MMR_LINENO` (R24). -/
  lineno : BitVec 16
  /-- `MMR_STRIPLINENO` (R24). -/
  striplineno : BitVec 16
  /-- `MMR_STRIPENO` (R24). -/
  stripeno : BitVec 16
  /-- `MMR_BITPOS`, the bit cursor (R24, R25). -/
  bitpos : BitVec 35
  /-- `MMR_ERRROW` (R30). -/
  errrow : BitVec 16
  /-- `MMR_ERRBIT` (R30). -/
  errbit : BitVec 35
  /-- `JB2_ERRX` (R36). -/
  jb2Errx : Word
  /-- `JB2_ERRY` (R36). -/
  jb2Erry : Word
  /-- The input byte stream S (R37; 20_memory.md R61). -/
  stream : List Byte
  /-- `SP` (R25). -/
  sp : BitVec 32
  /-- `SEND` (R25). -/
  send : BitVec 33
  /-- `SDATA` (R25; 20_memory.md R68). -/
  sdata : List Byte
  /-- `REF`, the reference line; `NREF` is its length (R26). -/
  ref : List Nat
  /-- `CUR`, the row being decoded; `NRUN` is its length (R26, R27). -/
  cur : List Nat
  /-- `A0`, the coding position (R27). -/
  a0 : Int
  /-- `B1`, the reference position (R27). -/
  b1 : Int
  /-- `PR`, the index of the reference run that starts at `B1` (R27). -/
  pr : Nat
  /-- `RLE`, the pending run (R27). -/
  rle : Int
  /-- `COLOR`, the current colour (R28). -/
  color : Colour
  /-- `CWSTART` (R27). -/
  cwstart : BitVec 35
  /-- `OUT`, the RLE output buffer (20_memory.md R74). -/
  out : List Byte
  /-- `CTXD`, the direct bank (R32). -/
  ctxd : Vector Nat 1024
  /-- `CTXX`, the cross bank (R32). -/
  ctxx : Vector Nat 2048
  /-- `TB`, the target bitmap, with `TW` and `TH` (R33). -/
  tb : Bitmap
  /-- `MB` and its box, held only during a cross-coding command (R34). -/
  model : Option Model
  /-- `X` (R35). -/
  x : Int
  /-- `Y` (R35). -/
  y : Int
  /-- `CTX` (R35). -/
  ctx : BitVec 11
  /-- `XD2C` (R35). -/
  xd2c : Int
  /-- `YD2C` (R35). -/
  yd2c : Int
  /-- The state z of the ZP agent (R37). -/
  zp : Nat
  /-- The model's own: where the sequencer stands (log 2). -/
  pos : Position
  /-- The model's own: the scan command being run (log 2). -/
  scan : ScanKind
  /-- The model's own: the result port (log 15). -/
  result : Option CmdResult
  /-- The model's own: what the host has issued and the block has not taken (log 15). -/
  inbox : List HostEvent
  /-- The model's own: the counter that free values are drawn from (log 10). -/
  freeCount : Nat
  deriving DecidableEq, Repr

/-- Why the machine stops with a fault. No fetched instruction raises one. -/
inductive Fault where
  /-- Raised by the meaning of a codeword that is executed where its codebook does not apply. Codewords are fetched only through
  the codebook of the position (spec 30_encoding.md R115), so no step of the machine raises it. Safe. -/
  | codewordOutOfPosition
  /-- Raised by the meaning of a command that is executed while another command runs. The block accepts a command only when the
  one before has returned (spec 46_control.md R294), so no step of the machine raises it. Safe. -/
  | commandWhileBusy
  deriving DecidableEq, Repr

/-- Why the machine gives an instruction no meaning. -/
inductive Refusal where
  /-- Raised by exec for an instruction that has no meaning yet, by name. Safe. -/
  | notModelled (mnemonic : String)
  /-- Raised by the step for a command packet that is no command of the interface: operands of another type than the opcode takes,
  or an operand outside its range (spec 30_encoding.md R122 types the operands; log 1). Safe. -/
  | illFormedCommand (e : DecodeError)
  deriving DecidableEq, Repr

/-- What every meaning answers. -/
abbrev Result := Host.Outcome State Fault Refusal

/-- The state after reset (spec 10_state.md R40, 70_reset_and_hazards.md R340, R341). The registers that R40 calls unspecified
are 0 here (DESIGN CHOICE, log 5 and 6); the ZP agent stands in the opaque state `Config.zpInit` (log 13). -/
def State.reset : State where
  ovrClamp := false
  mmrState := .unconf
  jb2Failed := false
  mmrErr := .noError
  jb2Err := .noError
  lastErr := .noError
  width := 0
  height := 0
  flags := 0
  rps := 0
  lineno := 0
  striplineno := 0
  stripeno := 0
  bitpos := 0
  errrow := 0
  errbit := 0
  jb2Errx := 0
  jb2Erry := 0
  stream := []
  sp := 0
  send := 0
  sdata := []
  ref := []
  cur := []
  a0 := 0
  b1 := 0
  pr := 0
  rle := 0
  color := .white
  cwstart := 0
  out := []
  ctxd := Vector.replicate 1024 Config.cellInit
  ctxx := Vector.replicate 2048 Config.cellInit
  tb := Bitmap.empty
  model := none
  x := 0
  y := 0
  ctx := 0
  xd2c := 0
  yd2c := 0
  zp := Config.zpInit
  pos := .idle
  scan := .runs
  result := none
  inbox := []
  freeCount := 0

end Sys2Proof.Machine
end

