-- ==== Sys2Proof/Machine/Flags.lean ====
section
/-! DEFINITION. The flags: the writes of `COLOR`, the block's only flag (spec 10_state.md R28), the fields of `CTRL`, `STATUS` and
`MMR_FLAGS`, and the register views that the host reads (spec 10_state.md R38).
-/
namespace Sys2Proof.Machine

/-- `COLOR <- 1 - COLOR` (spec 40_mmr_modes.md R163). -/
def State.flipColor (s : State) : State := { s with color := s.color.other }

/-- `COLOR <- c` (spec 41_mmr_escapes.md R196, R200). -/
def State.setColor (c : Colour) (s : State) : State := { s with color := c }

/-- `MMR_FLAGS.INVERT`, bit 0 (spec 10_state.md R23). -/
def State.invert (s : State) : Bool := s.flags.getLsbD 0

/-- `MMR_FLAGS.STRIPED`, bit 1 (spec 10_state.md R23). -/
def State.striped (s : State) : Bool := s.flags.getLsbD 1

/-- The 4-bit number of an error code (spec 60_exceptions.md R300). -/
def ErrCode.code : ErrCode → BitVec 4
  | .noError => 0
  | .unexpectedEndOfStream => 1
  | .corruptMMRStream => 2
  | .corruptJB2Stream => 3
  | .badCodebook => 4
  | .badDictionary => 5
  | .noStartRecord => 6
  | .badMMRHeader => 7
  | .illegalCommand => 8

/-- The 2-bit number of an MMR unit state (spec 10_state.md R22). -/
def MmrState.code : MmrState → BitVec 2
  | .unconf => 0
  | .active => 1
  | .done => 2
  | .failed => 3

/-- `CTRL` as it reads: bit 0 is `OVR_CLAMP`, bits 31:1 read 0 (spec 10_state.md R21). -/
def State.ctrlReg (s : State) : BitVec 32 := (BitVec.ofBool s.ovrClamp).setWidth 32

/-- `STATUS` as it reads: `MMR_STATE` in 1:0, `JB2_FAILED` in 2, `MMR_ERR` in 7:4, `JB2_ERR` in 11:8, `LAST_ERR` in 15:12, every
other bit 0 (spec 10_state.md R22). -/
def State.statusReg (s : State) : BitVec 32 :=
  s.mmrState.code.setWidth 32 ||| ((BitVec.ofBool s.jb2Failed).setWidth 32 <<< 2) |||
    (s.mmrErr.code.setWidth 32 <<< 4) ||| (s.jb2Err.code.setWidth 32 <<< 8) ||| (s.lastErr.code.setWidth 32 <<< 12)

/-- The value of a host-visible register, zero-extended to 64 bits, signed registers in two's complement of their width; `none`
above 0x0F (spec 10_state.md R38, 46_control.md R292). -/
def State.regValue (s : State) (n : BitVec 8) : Option (BitVec 64) :=
  match n.toNat with
  | 0x00 => some (s.ctrlReg.setWidth 64)
  | 0x01 => some (s.statusReg.setWidth 64)
  | 0x02 => some (s.width.setWidth 64)
  | 0x03 => some (s.height.setWidth 64)
  | 0x04 => some (s.flags.setWidth 64)
  | 0x05 => some (s.rps.setWidth 64)
  | 0x06 => some (s.lineno.setWidth 64)
  | 0x07 => some (s.striplineno.setWidth 64)
  | 0x08 => some (s.stripeno.setWidth 64)
  | 0x09 => some (s.bitpos.setWidth 64)
  | 0x0a => some (s.errrow.setWidth 64)
  | 0x0b => some (s.errbit.setWidth 64)
  | 0x0c => some (s.tb.w.setWidth 64)
  | 0x0d => some (s.tb.h.setWidth 64)
  | 0x0e => some (s.jb2Errx.setWidth 64)
  | 0x0f => some (s.jb2Erry.setWidth 64)
  | _ => none

end Sys2Proof.Machine
end

