-- ==== Sys2Proof/Machine/Ops.lean ====
section
/-! DEFINITION. The shared operations: the free values, the results of commands, the error entries (the block's only exceptional
control flow, spec 60_exceptions.md R309-R311), the byte source and the bit source (20_memory.md R61-R69), the run buffers,
the bitmaps and the context cells (20_memory.md R70-R73).
-/
namespace Sys2Proof.Machine

/-! ## Free values (log 7, 8, 9, 10) -/

/-- The row-local registers between rows: "any value" (spec 93_implementation_defined.md U3). -/
def State.freeRow (s : State) : State :=
  { s with
    a0 := (Config.freeA0 s.freeCount).toInt
    b1 := (Config.freeB1 s.freeCount).toInt
    pr := (Config.freePr s.freeCount).toNat
    rle := (Config.freeRle s.freeCount).toNat
    color := if Config.freeColor s.freeCount then .black else .white
    cwstart := Config.freeCwstart s.freeCount
    freeCount := s.freeCount + 1 }

/-- The contents of `CUR` after an error and after EOFB: any values (spec 93_implementation_defined.md U5, U6). Their number,
`NRUN`, stays. -/
def State.freeCur (s : State) : State :=
  { s with
    cur := (List.range s.cur.length).map fun i => (Config.freeRun s.freeCount i).toNat
    freeCount := s.freeCount + 1 }

/-- `OUT` after an error: any value (spec 93_implementation_defined.md U5). -/
def State.freeOutBuffer (s : State) : State :=
  { s with out := Config.freeOut s.freeCount, freeCount := s.freeCount + 1 }

/-- The pixels of `TB` after an error: any values (spec 93_implementation_defined.md U5). `TW` and `TH` stay. -/
def State.freeTb (s : State) : State :=
  { s with
    tb := { s.tb with px := (List.range s.tb.px.length).map fun i => Config.freePixel s.freeCount i }
    freeCount := s.freeCount + 1 }

/-- The JB2 working registers between commands: "any value" (spec 93_implementation_defined.md U4); no model bitmap is held
(10_state.md R34). -/
def State.freeJb2 (s : State) : State :=
  { s with
    model := none
    x := (Config.freeX s.freeCount).toInt
    y := (Config.freeY s.freeCount).toInt
    ctx := Config.freeCtx s.freeCount
    xd2c := (Config.freeXd2c s.freeCount).toInt
    yd2c := (Config.freeYd2c s.freeCount).toInt
    freeCount := s.freeCount + 1 }

/-! ## Results and errors -/

/-- The command ends with a result that is no error; `LAST_ERR` is not written (spec 60_exceptions.md R311). -/
def State.reply (r : CmdResult) (s : State) : State := { s with result := some r, pos := .idle }

/-- The command ends with `Err(code)`: "Every `Err` result writes `LAST_ERR` with its code" (spec 60_exceptions.md R311). Alone it
is the outcome of IllegalCommand, NoStartRecord and the sticky refusals. -/
def State.replyErr (e : ErrCode) (s : State) : State :=
  { s with lastErr := e, result := some (.err e), pos := .idle }

/-- The MMR error entry (spec 60_exceptions.md R309), on the state at the raise point. `CUR`, `OUT` and the row-local registers
are free values afterwards (20_memory.md R82; log 7, 9). -/
def mmrErrorEntry (e : ErrCode) (bit : BitVec 35) (s : State) : State :=
  (State.replyErr e { s with
    mmrState := .failed
    mmrErr := e
    errrow := s.lineno
    errbit := bit }).freeCur.freeOutBuffer.freeRow

/-- The JB2 error entry (spec 60_exceptions.md R310), on the state at the raise point, whose X and Y are the failing pixel. TB's
pixels and the working registers are free values afterwards (20_memory.md R82; log 8, 9). -/
def jb2ErrorEntry (e : ErrCode) (s : State) : State :=
  (State.replyErr e { s with
    jb2Failed := true
    jb2Err := e
    jb2Errx := BitVec.ofInt 32 s.x
    jb2Erry := BitVec.ofInt 32 s.y }).freeTb.freeJb2

/-- An error raised inside the MMR unit: the code, the bit position that the raise site gives, and the state at the raise point
(spec 00_scope.md R9 `raise`). -/
structure Raised where
  err : ErrCode
  bit : BitVec 35
  state : State
  deriving DecidableEq, Repr

/-- What an operation of the MMR unit answers: a value, or the first error raised. -/
abbrev Try (α : Type) := Except Raised α

/-- `raise E(row = MMR_LINENO, bit)`. -/
def raiseAt {α : Type} (e : ErrCode) (bit : BitVec 35) (s : State) : Try α := .error ⟨e, bit, s⟩

/-- An MMR command or codeword ends here: with the state it reached, or with the error entry of the error it raised. -/
def finishMmr : Try State → Result
  | .ok s => .next s
  | .error r => .next (mmrErrorEntry r.err r.bit r.state)

/-! ## The byte source (spec 20_memory.md R61, R62) -/

/-- `ReadByte()`. At the end of S it raises with bit = 8 * SP (spec 42_mmr_commands.md R211). -/
def readByte (s : State) : Try (Byte × State) :=
  match s.stream[s.sp.toNat]? with
  | none => raiseAt .unexpectedEndOfStream (BitVec.ofNat 35 (8 * s.sp.toNat)) s
  | some b => .ok (b, { s with sp := s.sp + 1 })

/-- `Read16()`, first byte most significant. -/
def read16 (s : State) : Try (BitVec 16 × State) := do
  let (b0, s) ← readByte s
  let (b1, s) ← readByte s
  return (b0 ++ b1, s)

/-- `Read32()`, first byte most significant. -/
def read32 (s : State) : Try (BitVec 32 × State) := do
  let (b0, s) ← readByte s
  let (b1, s) ← readByte s
  let (b2, s) ← readByte s
  let (b3, s) ← readByte s
  return (b0 ++ b1 ++ b2 ++ b3, s)

/-- The window `S[sp .. min(send, |S|) - 1]` (spec 20_memory.md R68). -/
def streamWindow (stream : List Byte) (sp send : Nat) : List Byte := (stream.drop sp).take (send - sp)

/-- The end of a stripe's entry: `LEN <- Read32()`, then the window and `BITPOS <- 0` (spec 20_memory.md R68, R69). -/
def readStripe (s : State) : Try State := do
  let (len, s) ← read32 s
  return { s with
    sdata := streamWindow s.stream s.sp.toNat (s.sp.toNat + len.toNat)
    send := s.sp.setWidth 33 + len.setWidth 33
    bitpos := 0 }

/-- `NextStripe()` (spec 20_memory.md R69). -/
def nextStripe (s : State) : Try State :=
  if s.stream.length < s.send.toNat then raiseAt .unexpectedEndOfStream s.bitpos s
  else do
    let s ← readStripe { s with sp := s.send.setWidth 32 }
    return { s with stripeno := s.stripeno + 1 }

/-! ## The bit source (spec 20_memory.md R63-R66) -/

/-- `SBITS`, the number of data bits of the stripe (spec 10_state.md R25). -/
def State.sbits (s : State) : Nat := 8 * s.sdata.length

/-- Bit k of the data: bit `7 - (k mod 8)` of byte `k div 8`, and 0 past the end (spec 20_memory.md R63, R64). -/
def streamBit (data : List Byte) (k : Nat) : Nat :=
  if k < 8 * data.length then ((data.getD (k / 8) 0).getLsbD (7 - k % 8)).toNat else 0

/-- The n bits from position k, the first most significant (spec 20_memory.md R64). -/
def peekFrom (data : List Byte) (k : Nat) : Nat → Nat
  | 0 => 0
  | n + 1 => 2 * peekFrom data k n + streamBit data (k + n)

/-- `Peek(32)`, the 32-bit window of upcoming bits (spec 20_memory.md R64). -/
def State.window (s : State) : BitVec 32 := BitVec.ofNat 32 (peekFrom s.sdata s.bitpos.toNat Config.peekBits)

/-- `Exhausted()` (spec 20_memory.md R66). -/
def State.exhausted (s : State) : Bool := Nat.ble s.sbits s.bitpos.toNat

/-- `Shift(n)` (spec 20_memory.md R65). -/
def shift (n : Nat) (s : State) : Try State :=
  if s.sbits < s.bitpos.toNat + n then raiseAt .unexpectedEndOfStream s.bitpos s
  else .ok { s with bitpos := s.bitpos + BitVec.ofNat 35 n }

/-- `CWSTART <- BITPOS`. -/
def State.mark (s : State) : State := { s with cwstart := s.bitpos }

/-- A codeword is fetched and consumed: `CWSTART <- BITPOS`, then `Shift(n)` (spec 30_encoding.md R102, 40_mmr_modes.md R152,
R155). -/
def takeCodeword (n : Nat) (s : State) : Try State := shift n s.mark

/-- A lookup failed: the error is UnexpectedEndOfStream when no data bit is left and CorruptMMRStream otherwise, at CWSTART
(spec 20_memory.md R67). -/
def lookupFailed (s : State) : Result :=
  finishMmr (if s.exhausted then raiseAt .unexpectedEndOfStream s.bitpos s.mark
    else raiseAt .corruptMMRStream s.bitpos s.mark)

/-! ## The run buffers -/

/-- `REF(i)`, 0 past the stored runs (spec 20_memory.md R72). -/
def State.refAt (s : State) (i : Nat) : Int := s.ref.getD i 0

/-- `Emit(v)` (spec 40_mmr_modes.md R164): the negative-run check comes before the capacity check (60_exceptions.md R312). -/
def emit (v : Int) (s : State) : Try State :=
  if v < 0 then raiseAt .corruptMMRStream s.cwstart s
  else if Config.runCap s.width.toNat ≤ s.cur.length then raiseAt .corruptMMRStream s.cwstart s
  else .ok { s with cur := s.cur ++ [v.toNat] }

/-- `Emit(RLE); RLE <- 0`. -/
def emitPending (s : State) : Try State := do
  let s ← emit s.rle s
  return { s with rle := 0 }

/-! ## Bitmaps and context cells -/

/-- `Pix(bm, x, y)`: 0 outside the bitmap (spec 20_memory.md R70). -/
def pix (b : Bitmap) (x y : Int) : Bool :=
  if 0 ≤ x ∧ x < b.w.toNat ∧ 0 ≤ y ∧ y < b.h.toNat then b.px.getD (y.toNat * b.w.toNat + x.toNat) false else false

/-- `SetPix(bm, x, y, v)`, issued only in range (spec 20_memory.md R71); out of range it changes nothing. -/
def setPix (b : Bitmap) (x y : Int) (v : Bool) : Bitmap :=
  if 0 ≤ x ∧ x < b.w.toNat ∧ 0 ≤ y ∧ y < b.h.toNat then
    { b with px := b.px.set (y.toNat * b.w.toNat + x.toNat) v }
  else b

/-- A `w` by `h` bitmap of white pixels. -/
def blankBitmap (w h : Word) : Bitmap := ⟨w, h, List.replicate (w.toNat * h.toNat) false⟩

/-- The contents of the cell that a request names; a direct index is the 10 low bits (spec 20_memory.md R73). -/
def State.cell (s : State) : Bank → BitVec 11 → Nat
  | .d, idx => s.ctxd.get (idx.setWidth 10).toFin
  | .x, idx => s.ctxx.get idx.toFin

/-- The ZP agent writes the cell that a request named (spec 44_jb2_direct.md R241). -/
def State.setCell (s : State) (bank : Bank) (idx : BitVec 11) (c : Nat) : State :=
  match bank with
  | .d => { s with ctxd := s.ctxd.set (idx.setWidth 10).toNat c (idx.setWidth 10).isLt }
  | .x => { s with ctxx := s.ctxx.set idx.toNat c idx.isLt }

/-- The state once ZP has answered the request on the cell that `CTX` names: the agent's new state z' and the cell's new contents are
the agent's own (spec 44_jb2_direct.md R241). -/
def zpAnswered (bank : Bank) (z cell : Nat) (s : State) : State := { s.setCell bank s.ctx cell with zp := z }

/-- `ZPDecode(bank, idx)` up to the response: one round trip with the agent on the cell that `CTX` names
(spec 44_jb2_direct.md R240, R241); `none` where ZP never answers (70_reset_and_hazards.md R349). -/
def zpRequest (zp : Zp) (bank : Bank) (s : State) : Option (ZpResponse × State) :=
  match zp s.zp bank s.ctx (s.cell bank s.ctx) with
  | none => none
  | some (response, z, cell) => some (response, zpAnswered bank z cell s)

end Sys2Proof.Machine
end

