-- ==== Sys2Proof/Machine/Row.lean ====
section
/-! DEFINITION. The row program of the MMR unit: row start, reference tracking, row end, commit and the outputs of a row
(spec 40_mmr_modes.md R151, R152, R165-R169; 42_mmr_commands.md R215-R220; 30_encoding.md R118).
-/
namespace Sys2Proof.Machine

/-! ## Outputs -/

/-- `RunsOut()`'s inversion: drop an empty first white run, or start with one (spec 42_mmr_commands.md R217). -/
def invertRuns : List Nat → List Nat
  | 0 :: l => l
  | l => 0 :: l

/-- `RunsOut()` (spec 42_mmr_commands.md R217). -/
def State.runsOut (s : State) : List Nat := if s.invert then invertRuns s.cur else s.cur

/-- The last unit of a run n of at most 16383 pixels (spec 30_encoding.md R118). -/
def encodeUnit (n : Nat) : List Byte :=
  if n < 192 then [BitVec.ofNat 8 n] else [BitVec.ofNat 8 (0xc0 + n / 256), BitVec.ofNat 8 (n % 256)]

/-- `EncodeRun(n)` with a bound on the number of triplets (spec 30_encoding.md R118). -/
def encodeRunWith : Nat → Nat → List Byte
  | 0, n => encodeUnit n
  | k + 1, n => if 16383 < n then [0xff, 0xff, 0x00] ++ encodeRunWith k (n - 16383) else encodeUnit n

/-- `EncodeRun(n)` (spec 30_encoding.md R118). -/
def encodeRun (n : Nat) : List Byte := encodeRunWith (n / 16383) n

/-- `EncodeRow(L)` from the running sum `sum` on (spec 42_mmr_commands.md R220). -/
def encodeRowFrom (w : Nat) : Nat → List Nat → List Byte
  | _, [] => []
  | sum, n :: l => if w ≤ sum then [] else encodeRun n ++ encodeRowFrom w (sum + n) l

/-- `EncodeRow(L)` (spec 42_mmr_commands.md R219, R220). -/
def encodeRow (w : Nat) (l : List Nat) : List Byte := encodeRowFrom w 0 l

/-- A scan command returns its row: `MMR_STATE` becomes DONE after the last row (spec 42_mmr_commands.md R215), the payload is
`RunsOut()` for MMR_SCANRUNS, and for MMR_SCANRLE the row's bytes, which are what `OUT` then holds (R218, 20_memory.md R74). -/
def completeScan (s : State) : State :=
  let s := { s with mmrState := if s.lineno = s.height then .done else s.mmrState }
  match s.scan with
  | .runs => (s.reply (.ok (.runs s.runsOut))).freeRow
  | .rle =>
    let bytes := encodeRow s.width.toNat s.runsOut
    (State.reply (.ok (.bytes bytes)) { s with out := bytes }).freeRow

/-- The scan returns `NoLine` at EOFB: the partial row is discarded (spec 41_mmr_escapes.md R191). -/
def endScanNoLine (s : State) : State := (s.reply .noLine).freeCur.freeRow

/-! ## Row start, resynchronisation and row end -/

/-- `RowStart()` (spec 40_mmr_modes.md R151). -/
def rowStart (s : State) : State :=
  { s with a0 := 0, rle := 0, color := .white, cur := [], pr := 1, b1 := s.refAt 0 }

/-- The loop of `Resync()` over the reference runs from `PR` on (spec 40_mmr_modes.md R165): B1 and PR afterwards. Where no run is
left, B1 is W in every state the machine reaches (R170) and the loop has ended; in other states it ends there too (log 18). -/
def resyncLoop (a0 w : Int) : List Nat → Int → Nat → Int × Nat
  | [], b1, pr => (b1, pr)
  | [r], b1, pr => if b1 ≤ a0 ∧ b1 < w then (b1 + r, pr + 2) else (b1, pr)
  | r :: r' :: l, b1, pr => if b1 ≤ a0 ∧ b1 < w then resyncLoop a0 w l (b1 + r + r') (pr + 2) else (b1, pr)

/-- `Resync()` (spec 40_mmr_modes.md R165). -/
def resync (s : State) : State :=
  let after := resyncLoop s.a0 s.width.toNat (s.ref.drop s.pr) s.b1 s.pr
  { s with b1 := after.1, pr := after.2 }

/-- The clamp's loop on the runs of the row, last first: runs are dropped while A0 > W (spec 40_mmr_modes.md R168). -/
def dropRuns (w : Int) : List Nat → Int → List Nat × Int
  | [], a0 => ([], a0)
  | r :: l, a0 => if w < a0 then dropRuns w l (a0 - r) else (r :: l, a0)

/-- `Overshoot()` with `OVR_CLAMP = 1` (spec 40_mmr_modes.md R168). -/
def clampRow (s : State) : State :=
  let kept := dropRuns s.width.toNat s.cur.reverse s.a0
  if kept.2 < s.width.toNat then
    { s with cur := kept.1.reverse ++ [(s.width.toNat - kept.2).toNat], a0 := s.width.toNat }
  else { s with cur := kept.1.reverse, a0 := kept.2 }

/-- `Overshoot()` (spec 40_mmr_modes.md R168), called when A0 > W. -/
def overshoot (s : State) : Try State :=
  if s.ovrClamp then .ok (clampRow s) else raiseAt .corruptMMRStream s.cwstart s

/-- `Commit()` (spec 40_mmr_modes.md R169). -/
def commit (s : State) : State :=
  { s with ref := s.cur, lineno := s.lineno + 1, striplineno := s.striplineno + 1 }

/-- The row end after the trailing-run check: overshoot, commit, and the scan's return (spec 40_mmr_modes.md R166,
42_mmr_commands.md R215). -/
def closeRow (s : State) : Try State := do
  let s ← if (s.width.toNat : Int) < s.a0 then overshoot s else .ok s
  return completeScan (commit s)

/-- `RowEnd()` up to the trailing-run check, which waits for its codeword (spec 40_mmr_modes.md R166, R167). -/
def rowEnd (s : State) : Try State :=
  if 0 < s.rle then .ok { s with pos := .trailing } else closeRow s

/-- The test of the row loop, `while A0 < W` (spec 40_mmr_modes.md R152). -/
def rowLoop (s : State) : Try State :=
  if s.a0 < s.width.toNat then .ok { s with pos := .mode } else rowEnd s

/-- After a mode instruction: `Resync()`, then the row loop's test (spec 40_mmr_modes.md R152). -/
def afterMode (s : State) : Try State := rowLoop (resync s)

end Sys2Proof.Machine
end

