-- ==== Sys2Proof/Machine/Operands.lean ====
section
/-! DEFINITION. The operand forms. MMR: the codebooks of a position and the run operands of Horizontal mode (spec 30_encoding.md R115,
R111; 40_mmr_modes.md R155), the pixels of uncompressed mode (41_mmr_escapes.md R196), the header fields (42_mmr_commands.md
R211). JB2: the context words that a ZP request names, full and rolled (44_jb2_direct.md R242, R243; 45_jb2_cross.md
R266-R268).
-/
namespace Sys2Proof.Machine

/-! ## Positions -/

/-- The colour of the run that is read next inside Horizontal mode: `COLOR`, then its opposite (spec 40_mmr_modes.md R154). -/
def State.runColour (s : State) : Option Colour :=
  match s.pos with
  | .run1 => some s.color
  | .run2 => some s.color.other
  | _ => none

/-- The codebooks that read the next codeword, in the order they are tried; `none` outside a scan command (spec 30_encoding.md R115,
40_mmr_modes.md R152, R167; 41_mmr_escapes.md R190). -/
def State.books (s : State) : Option (List Book) :=
  match s.pos with
  | .idle => none
  | .mode => some [.mode, .esc]
  | .run1 => some [runBook s.color]
  | .run2 => some [runBook s.color.other]
  | .unc => some [.unc]
  | .trailing => some [.mode]
  | .zpWait => none

/-! ## Run operands -/

/-- After a terminating code the run is emitted; the second run ends the mode (spec 40_mmr_modes.md R154). -/
def endRun (s : State) : Try State :=
  match s.pos with
  | .run1 => do
    let s ← emitPending s
    return { s with pos := .run2 }
  | _ => do
    let s ← emitPending s
    afterMode s

/-- One codeword of `ReadRun(c)` after the lookup: its value joins A0 and RLE, the position limit is checked, and a value below 64
ends the run (spec 40_mmr_modes.md R155, R171). -/
def addRun (v : Nat) (s : State) : Try State :=
  let s := { s with a0 := s.a0 + v, rle := s.rle + v }
  if Config.a0Limit < s.a0 then raiseAt .corruptMMRStream s.cwstart s
  else if v < 64 then endRun s
  else .ok s

/-- A run codeword of colour c, value v and length len. -/
def runCodeword (c : Colour) (v len : Nat) (s : State) : Result :=
  if s.runColour = some c then
    finishMmr do
      let s ← takeCodeword len s
      addRun v s
  else .fault .codewordOutOfPosition

/-! ## Uncompressed pixels -/

/-- `UPix(p)` (spec 41_mmr_escapes.md R196). -/
def uPix (p : Colour) (s : State) : Try State := do
  let s ← if p ≠ s.color then
      (do
        let s ← emitPending s
        return s.setColor p)
    else .ok s
  return { s with rle := s.rle + 1, a0 := s.a0 + 1 }

/-- The check after each pixel code: A0 > W raises (spec 41_mmr_escapes.md R193, R196). -/
def uCheck (s : State) : Try State :=
  if (s.width.toNat : Int) < s.a0 then raiseAt .corruptMMRStream s.cwstart s else .ok s

/-- One bit of a literal pixel code: one turn of the loop of spec 41_mmr_escapes.md R193. -/
def uBit (p : Colour) (s : State) : Try State := do
  let s ← takeCodeword 1 s
  let s ← uPix p s
  uCheck s

/-- The literal code of k white pixels and one black pixel, bit by bit (spec 41_mmr_escapes.md R194). -/
def uLiteral : Nat → State → Try State
  | 0, s => uBit .black s
  | k + 1, s => do
    let s ← uBit .white s
    uLiteral k s

/-- n white pixels. -/
def uWhites : Nat → State → Try State
  | 0, s => .ok s
  | n + 1, s => do
    let s ← uPix .white s
    uWhites n s

/-! ## The `Smmr` header -/

/-- `ParseHeader()` (spec 42_mmr_commands.md R211). -/
def parseHeader (s : State) : Try State := do
  let (magic, s) ← read32 s
  if magic &&& 0xfffffffc ≠ 0x4d4d5200 then raiseAt .badMMRHeader 0 s
  else
    let (w, s) ← read16 { s with flags := magic.setWidth 2 }
    let (h, s) ← read16 { s with width := w }
    let s := { s with height := h }
    if w = 0 ∨ h = 0 then raiseAt .badMMRHeader 32 s
    else if s.striped then
      let (r, s) ← read16 s
      let s := { s with rps := r }
      if r = 0 then raiseAt .badMMRHeader 64 s else return s
    else return { s with rps := h }

/-! ## JB2 contexts -/

/-- A pixel as a bit of a context word. -/
def ctxBit (v : Bool) (i : Nat) : BitVec 11 := (BitVec.ofBool v).setWidth 11 <<< i

/-- `DirectCtx(x, y)` (spec 44_jb2_direct.md R242, 30_encoding.md R120); the word has 10 bits. -/
def directCtx (tb : Bitmap) (x y : Int) : BitVec 11 :=
  ctxBit (pix tb (x - 1) (y + 2)) 9 ||| ctxBit (pix tb x (y + 2)) 8 ||| ctxBit (pix tb (x + 1) (y + 2)) 7 |||
    ctxBit (pix tb (x - 2) (y + 1)) 6 ||| ctxBit (pix tb (x - 1) (y + 1)) 5 ||| ctxBit (pix tb x (y + 1)) 4 |||
    ctxBit (pix tb (x + 1) (y + 1)) 3 ||| ctxBit (pix tb (x + 2) (y + 1)) 2 ||| ctxBit (pix tb (x - 2) y) 1 |||
    ctxBit (pix tb (x - 1) y) 0

/-- `RollDirect(ctx, x', y, n)` (spec 44_jb2_direct.md R243). -/
def rollDirect (tb : Bitmap) (ctx : BitVec 11) (x y : Int) (n : Bool) : BitVec 11 :=
  ((ctx <<< 1) &&& 0x37a) ||| ctxBit (pix tb (x + 1) (y + 2)) 7 ||| ctxBit (pix tb (x + 2) (y + 1)) 2 ||| ctxBit n 0

/-- `XD2C` and `YD2C` (spec 45_jb2_cross.md R266): one axis, from the target's size and the box's low and high edge. `tdiv`
truncates toward zero (00_scope.md R6). -/
def alignOffset (size low high : Word) : Int :=
  ((size.toNat / 2 : Nat) : Int) - size.toNat + 1 - ((high.toInt - low.toInt + 1).tdiv 2 - high.toInt)

/-- `CrossCtx(x, y)`, the target pixel's neighbours in TB and the model's around (mx, my) (spec 45_jb2_cross.md R267,
30_encoding.md R121). -/
def crossCtx (tb mb : Bitmap) (x y mx my : Int) : BitVec 11 :=
  ctxBit (pix tb (x - 1) (y + 1)) 10 ||| ctxBit (pix tb x (y + 1)) 9 ||| ctxBit (pix tb (x + 1) (y + 1)) 8 |||
    ctxBit (pix tb (x - 1) y) 7 ||| ctxBit (pix mb mx (my + 1)) 6 ||| ctxBit (pix mb (mx - 1) my) 5 |||
    ctxBit (pix mb mx my) 4 ||| ctxBit (pix mb (mx + 1) my) 3 ||| ctxBit (pix mb (mx - 1) (my - 1)) 2 |||
    ctxBit (pix mb mx (my - 1)) 1 ||| ctxBit (pix mb (mx + 1) (my - 1)) 0

/-- `RollCross(ctx, x', y, n)` (spec 45_jb2_cross.md R268). -/
def rollCross (tb mb : Bitmap) (ctx : BitVec 11) (x y mx my : Int) (n : Bool) : BitVec 11 :=
  ((ctx <<< 1) &&& 0x636) ||| ctxBit (pix tb (x + 1) (y + 1)) 8 ||| ctxBit n 7 ||| ctxBit (pix mb mx (my + 1)) 6 |||
    ctxBit (pix mb (mx + 1) my) 3 ||| ctxBit (pix mb (mx + 1) (my - 1)) 0

/-- The model bitmap held, empty when none is (spec 10_state.md R34). -/
def State.modelBitmap (s : State) : Bitmap :=
  match s.model with
  | some m => m.mb
  | none => Bitmap.empty

/-- The full context of the pixel (X, Y) in a bank. -/
def State.fullCtx (s : State) : Bank → BitVec 11
  | .d => directCtx s.tb s.x s.y
  | .x => crossCtx s.tb s.modelBitmap s.x s.y (s.x + s.xd2c) (s.y + s.yd2c)

/-- The context rolled to the pixel (X, Y), where n is the pixel just decoded at (X - 1, Y). -/
def State.rolledCtx (s : State) (n : Bool) : Bank → BitVec 11
  | .d => rollDirect s.tb s.ctx s.x s.y n
  | .x => rollCross s.tb s.modelBitmap s.ctx s.x s.y (s.x + s.xd2c) (s.y + s.yd2c) n

end Sys2Proof.Machine
end

