-- ==== Sys2Proof/Machine/Escapes.lean ====
section
/-! DEFINITION. The escapes EOFB and uncompressed mode (spec 41_mmr_escapes.md R191-R200).
-/
namespace Sys2Proof.Machine

/-- A codeword that only one position reads. -/
def codewordAt (p : Position) (body : State → Try State) (s : State) : Result :=
  if s.pos = p then finishMmr (body s) else .fault .codewordOutOfPosition

/-- EOFB (spec 41_mmr_escapes.md R191): the row counter becomes H, the unit is DONE, nothing is consumed, the scan returns
`NoLine`. -/
def execEofb (s : State) : Result :=
  codewordAt .mode (fun s => .ok (endScanNoLine { s.mark with lineno := s.height, mmrState := .done })) s

/-- UNC, the uncompressed-mode entry, `0000001111` (spec 41_mmr_escapes.md R192). -/
def execUnc (s : State) : Result :=
  codewordAt .mode
    (fun s => do
      let s ← takeCodeword 10 s
      return { s with pos := .unc })
    s

/-- U1: one black pixel (spec 41_mmr_escapes.md R194). -/
def execU1 (s : State) : Result := codewordAt .unc (uLiteral 0) s

/-- U01: one white pixel, one black (spec 41_mmr_escapes.md R194). -/
def execU01 (s : State) : Result := codewordAt .unc (uLiteral 1) s

/-- U001: two white pixels, one black (spec 41_mmr_escapes.md R194). -/
def execU001 (s : State) : Result := codewordAt .unc (uLiteral 2) s

/-- U0001: three white pixels, one black (spec 41_mmr_escapes.md R194). -/
def execU0001 (s : State) : Result := codewordAt .unc (uLiteral 3) s

/-- U00001: four white pixels, one black (spec 41_mmr_escapes.md R194). -/
def execU00001 (s : State) : Result := codewordAt .unc (uLiteral 4) s

/-- U00000, `000001`: five white pixels; the width is checked once, after them (spec 41_mmr_escapes.md R195). -/
def execU00000 (s : State) : Result :=
  codewordAt .unc
    (fun s => do
      let s ← takeCodeword 6 s
      let s ← uWhites 5 s
      uCheck s)
    s

/-- The reference pointer at the uncompressed exit: PR is 1 for white and 2 for black, B1 the sum of the runs before it
(spec 41_mmr_escapes.md R200). -/
def restartRef (s : State) : State :=
  match s.color with
  | .white => { s with pr := 1, b1 := s.refAt 0 }
  | .black => { s with pr := 2, b1 := s.refAt 0 + s.refAt 1 }

/-- `ExitFixup(T)` (spec 41_mmr_escapes.md R200). -/
def exitFixup (t : Colour) (s : State) : Try State := do
  let s ← if (s.width.toNat : Int) ≤ s.a0 then emitPending s
    else if t ≠ s.color then
      (do
        let s ← emitPending s
        return s.setColor t)
    else .ok s
  return restartRef s

/-- UX0 and UX1, the uncompressed exit `0000001T` (spec 41_mmr_escapes.md R198). -/
def execUx (t : Colour) (s : State) : Result :=
  codewordAt .unc
    (fun s => do
      let s ← takeCodeword 8 s
      let s ← exitFixup t s
      afterMode s)
    s

end Sys2Proof.Machine
end

