-- ==== Sys2Proof/Machine/Commands.lean ====
section
/-! DEFINITION. The MMR commands (spec 42_mmr_commands.md R210-R218) and the control commands (spec 46_control.md R290-R293).
-/
namespace Sys2Proof.Machine

/-- A command runs when no other does (spec 46_control.md R294). -/
def commandAt (body : State → Result) (s : State) : Result :=
  if s.pos = .idle then body s else .fault .commandWhileBusy

/-- The state that `MMR_INIT` starts from before the header is read: the writes of spec 42_mmr_commands.md R210, and what "No state of
an earlier stream survives" asks for beside them (70_reset_and_hazards.md R343). R210's pseudocode writes neither `OUT`, which
is emptied (DESIGN CHOICE, log 30), nor W, H, MMR_FLAGS and RPS before their fields are read, which become 0 (DEDUCED, log 31).
The row-local registers of 10_state.md R27 are written at the end of the command (`initMmr`; log 29). -/
def initStream (bytes : List Byte) (s : State) : State :=
  { s with
    mmrState := .unconf
    stream := bytes
    sp := 0
    send := BitVec.ofNat 33 bytes.length
    sdata := []
    bitpos := 0
    lineno := 0
    striplineno := 0
    stripeno := 0
    width := 0
    height := 0
    flags := 0
    rps := 0
    ref := []
    cur := []
    out := [] }

/-- `EnterWholeData()` (spec 42_mmr_commands.md R212). -/
def enterWholeData (s : State) : State :=
  { s with
    sdata := s.stream.drop s.sp.toNat
    send := BitVec.ofNat 33 s.stream.length
    bitpos := 0 }

/-- `EnterFirstStripe()` (spec 42_mmr_commands.md R213). -/
def enterFirstStripe (s : State) : Try State := do
  let s ← readStripe s
  return { s with stripeno := 0 }

/-- The all-white reference line (spec 42_mmr_commands.md R214). -/
def whiteReference (s : State) : State := { s with ref := [s.width.toNat] }

/-- The body of `MMR_INIT(S)` (spec 42_mmr_commands.md R210). Its "State written" line names the row-local registers A0, B1, PR, RLE,
COLOR and CWSTART, its pseudocode gives them no value: they take free values (DEDUCED, log 29). -/
def initMmr (bytes : List Byte) (s : State) : Try State := do
  let s ← parseHeader (initStream bytes s)
  let s ← if s.striped then enterFirstStripe s else .ok (enterWholeData s)
  return (State.reply (.ok .unit) { whiteReference s with mmrState := .active }).freeRow

/-- `StripeBoundary()` (spec 42_mmr_commands.md R216). -/
def stripeBoundary (s : State) : Try State := do
  let s ← nextStripe { s with striplineno := 0 }
  return whiteReference s

/-- A scan in ACTIVE: the stripe boundary when the stripe's rows are all returned, then the row's start; its codewords are the next
steps (spec 42_mmr_commands.md R215, 40_mmr_modes.md R152). -/
def startRow (k : ScanKind) (s : State) : Try State := do
  let s ← if s.striped ∧ s.striplineno = s.rps then stripeBoundary s else .ok s
  rowLoop (rowStart { s with scan := k, result := none })

/-- `OUT` at the start of a scan command: `MMR_SCANRLE` clears it (spec 20_memory.md R74). -/
def beginOutput (k : ScanKind) (s : State) : State := { s with out := if k = .rle then [] else s.out }

/-- A scan command by the state of the MMR unit (spec 42_mmr_commands.md R215, R218; 60_exceptions.md R311). A refused scan "writes
`LAST_ERR` and nothing else" (R311), so it does not clear `OUT` (DESIGN CHOICE, log 19). -/
def startScan (k : ScanKind) (s : State) : Result :=
  match s.mmrState with
  | .unconf => .next (s.replyErr .noStartRecord)
  | .failed => .next (s.replyErr s.mmrErr)
  | .done => .next ((beginOutput k s).reply .noLine)
  | .active => finishMmr (startRow k (beginOutput k s))

/-- MMR_INIT (spec 42_mmr_commands.md R210). -/
def execMmrInit (bytes : List Byte) (s : State) : Result := commandAt (fun s => finishMmr (initMmr bytes s)) s

/-- MMR_SCANRUNS (spec 42_mmr_commands.md R215). -/
def execMmrScanruns (s : State) : Result := commandAt (startScan .runs) s

/-- MMR_SCANRLE (spec 42_mmr_commands.md R218). -/
def execMmrScanrle (s : State) : Result := commandAt (startScan .rle) s

/-- CTX_INIT (spec 46_control.md R290). -/
def execCtxInit (s : State) : Result :=
  commandAt
    (fun s => .next (State.reply (.ok .unit) { s with
      ctxd := Vector.replicate 1024 Config.cellInit
      ctxx := Vector.replicate 2048 Config.cellInit
      jb2Failed := false
      jb2Err := .noError }))
    s

/-- WRITE_CTRL (spec 46_control.md R291): only bit 0 of the operand is written. -/
def execWriteCtrl (v : Word) (s : State) : Result :=
  commandAt (fun s => .next (State.reply (.ok .unit) { s with ovrClamp := v.getLsbD 0 })) s

/-- READ_REG (spec 46_control.md R292). -/
def execReadReg (n : BitVec 8) (s : State) : Result :=
  commandAt
    (fun s =>
      match s.regValue n with
      | some v => .next (s.reply (.ok (.value v)))
      | none => .next (s.replyErr .illegalCommand))
    s

/-- A reserved opcode (spec 46_control.md R293, 60_exceptions.md R311): its number and operands have no part in the outcome. -/
def execReserved (_opcode : BitVec 8) (s : State) : Result :=
  commandAt (fun s => .next (s.replyErr .illegalCommand)) s

end Sys2Proof.Machine
end

