-- ==== Sys2Proof/Machine/Jb2.lean ====
section
/-! DEFINITION. The JB2 commands (spec 44_jb2_direct.md R244-R246, 45_jb2_cross.md R269, R270). The pixel loops take the ZP oracle as an
argument; the commands run them with the parameter `Config.zp`.
-/
namespace Sys2Proof.Machine

/-- Why a bitmap loop stops before its last pixel, with the state there, whose X and Y are the pixel of the request. -/
inductive ZpStop where
  /-- ZP answered `EndOfStream` (spec 44_jb2_direct.md R246). -/
  | endOfStream (s : State)
  /-- ZP never answers the request (spec 70_reset_and_hazards.md R349, 93_implementation_defined.md U14). -/
  | noAnswer (s : State)
  deriving DecidableEq, Repr

/-- One turn of the inner loop: the request, `SetPix`, the step to the next column and the roll when a pixel of the row is left
(spec 44_jb2_direct.md R244, R246). -/
def decodePixel (zp : Zp) (bank : Bank) (s : State) : Except ZpStop State :=
  match zpRequest zp bank s with
  | none => .error (.noAnswer s)
  | some (.endOfStream, s) => .error (.endOfStream s)
  | some (.bit n, s) =>
    let s := { s with tb := setPix s.tb s.x s.y n, x := s.x + 1 }
    .ok { s with ctx := if s.x < s.tb.w.toNat then s.rolledCtx n bank else s.ctx }

/-- The inner loop for n columns. -/
def decodeColumns (zp : Zp) (bank : Bank) : Nat → State → Except ZpStop State
  | 0, s => .ok s
  | n + 1, s => do
    let s ← decodePixel zp bank s
    decodeColumns zp bank n s

/-- One row: `X <- 0`, the full context when the row has a pixel, the columns, `Y <- Y - 1`. -/
def decodeRow (zp : Zp) (bank : Bank) (s : State) : Except ZpStop State := do
  let s := { s with x := 0 }
  let s ← decodeColumns zp bank s.tb.w.toNat { s with ctx := s.fullCtx bank }
  return { s with y := s.y - 1 }

/-- The outer loop for n rows, top row first. -/
def decodeRows (zp : Zp) (bank : Bank) : Nat → State → Except ZpStop State
  | 0, s => .ok s
  | n + 1, s => do
    let s ← decodeRow zp bank s
    decodeRows zp bank n s

/-- The bitmap loop from the cleared target on (spec 44_jb2_direct.md R244, 45_jb2_cross.md R270). -/
def decodeBitmap (zp : Zp) (bank : Bank) (dw dh : Word) (s : State) : Except ZpStop State :=
  decodeRows zp bank dh.toNat { s with tb := blankBitmap dw dh, y := (dh.toNat : Int) - 1 }

/-- A ZP request that is never answered: the command has not returned and waits for ever, with what it holds
(spec 70_reset_and_hazards.md R349, 93_implementation_defined.md U14 "stuck"; log 11). -/
def waitForZp (s : State) : State := { s with result := none, pos := .zpWait }

/-- A JB2 command: the sticky refusal, the size check, the bitmap loop, and the result (spec 44_jb2_direct.md R244, R246;
45_jb2_cross.md R269, R270). `prepare` sets what the command holds while it runs. -/
def jb2Command (zp : Zp) (bank : Bank) (dw dh : Word) (prepare : State → State) (s : State) : State :=
  if s.jb2Failed then s.replyErr s.jb2Err
  else if Config.jb2MaxW.toNat < dw.toNat ∨ Config.jb2MaxH.toNat < dh.toNat then
    jb2ErrorEntry .corruptJB2Stream { s with x := -1, y := -1 }
  else
    match decodeBitmap zp bank dw dh (prepare s) with
    | .ok s => (s.reply (.ok .unit)).freeJb2
    | .error (.endOfStream s) => jb2ErrorEntry .unexpectedEndOfStream s
    | .error (.noAnswer s) => waitForZp s

/-- What `JB2_CROSS` holds while it runs: the model bitmap with its box, and the alignment (spec 45_jb2_cross.md R266, R270). -/
def holdModel (dw dh : Word) (mb : Bitmap) (box : Box) (s : State) : State :=
  { s with
    model := some ⟨mb, box⟩
    xd2c := alignOffset dw box.left box.right
    yd2c := alignOffset dh box.bottom box.top }

/-- JB2_DIRECT (spec 44_jb2_direct.md R244). -/
def execJb2Direct (dw dh : Word) (s : State) : Result :=
  commandAt (fun s => .next (jb2Command Config.zp .d dw dh id s)) s

/-- JB2_CROSS (spec 45_jb2_cross.md R270). -/
def execJb2Cross (dw dh : Word) (mb : Bitmap) (box : Box) (s : State) : Result :=
  commandAt (fun s => .next (jb2Command Config.zp .x dw dh (holdModel dw dh mb box) s)) s

end Sys2Proof.Machine
end

