-- ==== Sys2Proof/Machine/Modes.lean ====
section
/-! DEFINITION. The mode instructions Pass, Horizontal and Vertical (spec 40_mmr_modes.md R153-R163), each also as it acts at the
trailing-run check (R167).
-/
namespace Sys2Proof.Machine

/-- A mode codeword of length len: `body` at the mode position; at the trailing-run check the codeword is consumed and `close`
follows (spec 40_mmr_modes.md R152, R167). -/
def modeCodeword (len : Nat) (body close : State → Try State) (s : State) : Result :=
  match s.pos with
  | .mode => finishMmr do
    let s ← takeCodeword len s
    body s
  | .trailing => finishMmr do
    let s ← takeCodeword len s
    close s
  | _ => .fault .codewordOutOfPosition

/-- At the trailing-run check any mode but V0 raises, after it has been consumed (spec 40_mmr_modes.md R167). -/
def rejectTrailing (s : State) : Try State := raiseAt .corruptMMRStream s.cwstart s

/-- At the trailing-run check V0 closes the pending run; it does not run `Vertical(0)` (spec 40_mmr_modes.md R167). -/
def closeTrailing (s : State) : Try State := do
  let s ← emitPending s
  closeRow s

/-- `Pass()` (spec 40_mmr_modes.md R153). -/
def pass (s : State) : State :=
  let b2 := s.b1 + s.refAt s.pr
  { s with b1 := b2 + s.refAt (s.pr + 1), pr := s.pr + 2, rle := s.rle + (b2 - s.a0), a0 := b2 }

/-- The reference pointer's move in `Vertical(k)`: forward for k ≥ 0, back for k < 0 (spec 40_mmr_modes.md R163). -/
def moveRef (k : Int) (s : State) : State :=
  if 0 ≤ k then { s with b1 := s.b1 + s.refAt s.pr, pr := s.pr + 1 }
  else { s with b1 := s.b1 - s.refAt (s.pr - 1), pr := s.pr - 1 }

/-- `Vertical(k)` (spec 40_mmr_modes.md R163). When `emit` raises, the later writes do not happen. -/
def vertical (k : Int) (s : State) : Try State := do
  let inc := s.b1 + k
  let s ← emit (inc + s.rle - s.a0) (moveRef k s)
  return State.flipColor { s with a0 := inc, rle := 0 }

/-- `Vertical(k)` as a mode instruction. -/
def verticalMode (k : Int) (s : State) : Try State := do
  let s ← vertical k s
  afterMode s

/-- P, Pass mode, `0001` (spec 40_mmr_modes.md R153). -/
def execP (s : State) : Result := modeCodeword 4 (fun s => afterMode (pass s)) rejectTrailing s

/-- H, Horizontal mode, `001`: the two runs follow (spec 40_mmr_modes.md R154). -/
def execH (s : State) : Result := modeCodeword 3 (fun s => .ok { s with pos := .run1 }) rejectTrailing s

/-- V0, `1`: a1 = b1 (spec 40_mmr_modes.md R156). -/
def execV0 (s : State) : Result := modeCodeword 1 (verticalMode 0) closeTrailing s

/-- VR1, `011`: a1 = b1 + 1 (spec 40_mmr_modes.md R157). -/
def execVR1 (s : State) : Result := modeCodeword 3 (verticalMode 1) rejectTrailing s

/-- VR2, `000011`: a1 = b1 + 2 (spec 40_mmr_modes.md R158). -/
def execVR2 (s : State) : Result := modeCodeword 6 (verticalMode 2) rejectTrailing s

/-- VR3, `0000011`: a1 = b1 + 3 (spec 40_mmr_modes.md R159). -/
def execVR3 (s : State) : Result := modeCodeword 7 (verticalMode 3) rejectTrailing s

/-- VL1, `010`: a1 = b1 - 1 (spec 40_mmr_modes.md R160). -/
def execVL1 (s : State) : Result := modeCodeword 3 (verticalMode (-1)) rejectTrailing s

/-- VL2, `000010`: a1 = b1 - 2 (spec 40_mmr_modes.md R161). -/
def execVL2 (s : State) : Result := modeCodeword 6 (verticalMode (-2)) rejectTrailing s

/-- VL3, `0000010`: a1 = b1 - 3 (spec 40_mmr_modes.md R162). -/
def execVL3 (s : State) : Result := modeCodeword 7 (verticalMode (-3)) rejectTrailing s

end Sys2Proof.Machine
end

