-- ==== Sys2Proof/Machine/Runs.lean ====
section
/-! DEFINITION. The run codewords: each denotes a fixed run length and acts through the shared operation `runCodeword` (colour, value,
length in bits; spec 30_encoding.md R105-R109, R111; 40_mmr_modes.md R155). White codewords are read only where a white run
is, black ones only where a black run is.
-/
namespace Sys2Proof.Machine

/-! ## White terminating codes (spec 30_encoding.md R105) -/

/-- WT0, `00110101`. -/
def execWT0 (s : State) : Result := runCodeword .white 0 8 s

/-- WT1, `000111`. -/
def execWT1 (s : State) : Result := runCodeword .white 1 6 s

/-- WT2, `0111`. -/
def execWT2 (s : State) : Result := runCodeword .white 2 4 s

/-- WT3, `1000`. -/
def execWT3 (s : State) : Result := runCodeword .white 3 4 s

/-- WT4, `1011`. -/
def execWT4 (s : State) : Result := runCodeword .white 4 4 s

/-- WT5, `1100`. -/
def execWT5 (s : State) : Result := runCodeword .white 5 4 s

/-- WT6, `1110`. -/
def execWT6 (s : State) : Result := runCodeword .white 6 4 s

/-- WT7, `1111`. -/
def execWT7 (s : State) : Result := runCodeword .white 7 4 s

/-- WT8, `10011`. -/
def execWT8 (s : State) : Result := runCodeword .white 8 5 s

/-- WT9, `10100`. -/
def execWT9 (s : State) : Result := runCodeword .white 9 5 s

/-- WT10, `00111`. -/
def execWT10 (s : State) : Result := runCodeword .white 10 5 s

/-- WT11, `01000`. -/
def execWT11 (s : State) : Result := runCodeword .white 11 5 s

/-- WT12, `001000`. -/
def execWT12 (s : State) : Result := runCodeword .white 12 6 s

/-- WT13, `000011`. -/
def execWT13 (s : State) : Result := runCodeword .white 13 6 s

/-- WT14, `110100`. -/
def execWT14 (s : State) : Result := runCodeword .white 14 6 s

/-- WT15, `110101`. -/
def execWT15 (s : State) : Result := runCodeword .white 15 6 s

/-- WT16, `101010`. -/
def execWT16 (s : State) : Result := runCodeword .white 16 6 s

/-- WT17, `101011`. -/
def execWT17 (s : State) : Result := runCodeword .white 17 6 s

/-- WT18, `0100111`. -/
def execWT18 (s : State) : Result := runCodeword .white 18 7 s

/-- WT19, `0001100`. -/
def execWT19 (s : State) : Result := runCodeword .white 19 7 s

/-- WT20, `0001000`. -/
def execWT20 (s : State) : Result := runCodeword .white 20 7 s

/-- WT21, `0010111`. -/
def execWT21 (s : State) : Result := runCodeword .white 21 7 s

/-- WT22, `0000011`. -/
def execWT22 (s : State) : Result := runCodeword .white 22 7 s

/-- WT23, `0000100`. -/
def execWT23 (s : State) : Result := runCodeword .white 23 7 s

/-- WT24, `0101000`. -/
def execWT24 (s : State) : Result := runCodeword .white 24 7 s

/-- WT25, `0101011`. -/
def execWT25 (s : State) : Result := runCodeword .white 25 7 s

/-- WT26, `0010011`. -/
def execWT26 (s : State) : Result := runCodeword .white 26 7 s

/-- WT27, `0100100`. -/
def execWT27 (s : State) : Result := runCodeword .white 27 7 s

/-- WT28, `0011000`. -/
def execWT28 (s : State) : Result := runCodeword .white 28 7 s

/-- WT29, `00000010`. -/
def execWT29 (s : State) : Result := runCodeword .white 29 8 s

/-- WT30, `00000011`. -/
def execWT30 (s : State) : Result := runCodeword .white 30 8 s

/-- WT31, `00011010`. -/
def execWT31 (s : State) : Result := runCodeword .white 31 8 s

/-- WT32, `00011011`. -/
def execWT32 (s : State) : Result := runCodeword .white 32 8 s

/-- WT33, `00010010`. -/
def execWT33 (s : State) : Result := runCodeword .white 33 8 s

/-- WT34, `00010011`. -/
def execWT34 (s : State) : Result := runCodeword .white 34 8 s

/-- WT35, `00010100`. -/
def execWT35 (s : State) : Result := runCodeword .white 35 8 s

/-- WT36, `00010101`. -/
def execWT36 (s : State) : Result := runCodeword .white 36 8 s

/-- WT37, `00010110`. -/
def execWT37 (s : State) : Result := runCodeword .white 37 8 s

/-- WT38, `00010111`. -/
def execWT38 (s : State) : Result := runCodeword .white 38 8 s

/-- WT39, `00101000`. -/
def execWT39 (s : State) : Result := runCodeword .white 39 8 s

/-- WT40, `00101001`. -/
def execWT40 (s : State) : Result := runCodeword .white 40 8 s

/-- WT41, `00101010`. -/
def execWT41 (s : State) : Result := runCodeword .white 41 8 s

/-- WT42, `00101011`. -/
def execWT42 (s : State) : Result := runCodeword .white 42 8 s

/-- WT43, `00101100`. -/
def execWT43 (s : State) : Result := runCodeword .white 43 8 s

/-- WT44, `00101101`. -/
def execWT44 (s : State) : Result := runCodeword .white 44 8 s

/-- WT45, `00000100`. -/
def execWT45 (s : State) : Result := runCodeword .white 45 8 s

/-- WT46, `00000101`. -/
def execWT46 (s : State) : Result := runCodeword .white 46 8 s

/-- WT47, `00001010`. -/
def execWT47 (s : State) : Result := runCodeword .white 47 8 s

/-- WT48, `00001011`. -/
def execWT48 (s : State) : Result := runCodeword .white 48 8 s

/-- WT49, `01010010`. -/
def execWT49 (s : State) : Result := runCodeword .white 49 8 s

/-- WT50, `01010011`. -/
def execWT50 (s : State) : Result := runCodeword .white 50 8 s

/-- WT51, `01010100`. -/
def execWT51 (s : State) : Result := runCodeword .white 51 8 s

/-- WT52, `01010101`. -/
def execWT52 (s : State) : Result := runCodeword .white 52 8 s

/-- WT53, `00100100`. -/
def execWT53 (s : State) : Result := runCodeword .white 53 8 s

/-- WT54, `00100101`. -/
def execWT54 (s : State) : Result := runCodeword .white 54 8 s

/-- WT55, `01011000`. -/
def execWT55 (s : State) : Result := runCodeword .white 55 8 s

/-- WT56, `01011001`. -/
def execWT56 (s : State) : Result := runCodeword .white 56 8 s

/-- WT57, `01011010`. -/
def execWT57 (s : State) : Result := runCodeword .white 57 8 s

/-- WT58, `01011011`. -/
def execWT58 (s : State) : Result := runCodeword .white 58 8 s

/-- WT59, `01001010`. -/
def execWT59 (s : State) : Result := runCodeword .white 59 8 s

/-- WT60, `01001011`. -/
def execWT60 (s : State) : Result := runCodeword .white 60 8 s

/-- WT61, `00110010`. -/
def execWT61 (s : State) : Result := runCodeword .white 61 8 s

/-- WT62, `00110011`. -/
def execWT62 (s : State) : Result := runCodeword .white 62 8 s

/-- WT63, `00110100`. -/
def execWT63 (s : State) : Result := runCodeword .white 63 8 s

/-! ## White makeup codes (spec 30_encoding.md R106) -/

/-- WM64, `11011`. -/
def execWM64 (s : State) : Result := runCodeword .white 64 5 s

/-- WM128, `10010`. -/
def execWM128 (s : State) : Result := runCodeword .white 128 5 s

/-- WM192, `010111`. -/
def execWM192 (s : State) : Result := runCodeword .white 192 6 s

/-- WM256, `0110111`. -/
def execWM256 (s : State) : Result := runCodeword .white 256 7 s

/-- WM320, `00110110`. -/
def execWM320 (s : State) : Result := runCodeword .white 320 8 s

/-- WM384, `00110111`. -/
def execWM384 (s : State) : Result := runCodeword .white 384 8 s

/-- WM448, `01100100`. -/
def execWM448 (s : State) : Result := runCodeword .white 448 8 s

/-- WM512, `01100101`. -/
def execWM512 (s : State) : Result := runCodeword .white 512 8 s

/-- WM576, `01101000`. -/
def execWM576 (s : State) : Result := runCodeword .white 576 8 s

/-- WM640, `01100111`. -/
def execWM640 (s : State) : Result := runCodeword .white 640 8 s

/-- WM704, `011001100`. -/
def execWM704 (s : State) : Result := runCodeword .white 704 9 s

/-- WM768, `011001101`. -/
def execWM768 (s : State) : Result := runCodeword .white 768 9 s

/-- WM832, `011010010`. -/
def execWM832 (s : State) : Result := runCodeword .white 832 9 s

/-- WM896, `011010011`. -/
def execWM896 (s : State) : Result := runCodeword .white 896 9 s

/-- WM960, `011010100`. -/
def execWM960 (s : State) : Result := runCodeword .white 960 9 s

/-- WM1024, `011010101`. -/
def execWM1024 (s : State) : Result := runCodeword .white 1024 9 s

/-- WM1088, `011010110`. -/
def execWM1088 (s : State) : Result := runCodeword .white 1088 9 s

/-- WM1152, `011010111`. -/
def execWM1152 (s : State) : Result := runCodeword .white 1152 9 s

/-- WM1216, `011011000`. -/
def execWM1216 (s : State) : Result := runCodeword .white 1216 9 s

/-- WM1280, `011011001`. -/
def execWM1280 (s : State) : Result := runCodeword .white 1280 9 s

/-- WM1344, `011011010`. -/
def execWM1344 (s : State) : Result := runCodeword .white 1344 9 s

/-- WM1408, `011011011`. -/
def execWM1408 (s : State) : Result := runCodeword .white 1408 9 s

/-- WM1472, `010011000`. -/
def execWM1472 (s : State) : Result := runCodeword .white 1472 9 s

/-- WM1536, `010011001`. -/
def execWM1536 (s : State) : Result := runCodeword .white 1536 9 s

/-- WM1600, `010011010`. -/
def execWM1600 (s : State) : Result := runCodeword .white 1600 9 s

/-- WM1664, `011000`. -/
def execWM1664 (s : State) : Result := runCodeword .white 1664 6 s

/-- WM1728, `010011011`. -/
def execWM1728 (s : State) : Result := runCodeword .white 1728 9 s

/-! ## White extended makeup codes (spec 30_encoding.md R109) -/

/-- WX1792, `00000001000`. -/
def execWX1792 (s : State) : Result := runCodeword .white 1792 11 s

/-- WX1856, `00000001100`. -/
def execWX1856 (s : State) : Result := runCodeword .white 1856 11 s

/-- WX1920, `00000001101`. -/
def execWX1920 (s : State) : Result := runCodeword .white 1920 11 s

/-- WX1984, `000000010010`. -/
def execWX1984 (s : State) : Result := runCodeword .white 1984 12 s

/-- WX2048, `000000010011`. -/
def execWX2048 (s : State) : Result := runCodeword .white 2048 12 s

/-- WX2112, `000000010100`. -/
def execWX2112 (s : State) : Result := runCodeword .white 2112 12 s

/-- WX2176, `000000010101`. -/
def execWX2176 (s : State) : Result := runCodeword .white 2176 12 s

/-- WX2240, `000000010110`. -/
def execWX2240 (s : State) : Result := runCodeword .white 2240 12 s

/-- WX2304, `000000010111`. -/
def execWX2304 (s : State) : Result := runCodeword .white 2304 12 s

/-- WX2368, `000000011100`. -/
def execWX2368 (s : State) : Result := runCodeword .white 2368 12 s

/-- WX2432, `000000011101`. -/
def execWX2432 (s : State) : Result := runCodeword .white 2432 12 s

/-- WX2496, `000000011110`. -/
def execWX2496 (s : State) : Result := runCodeword .white 2496 12 s

/-- WX2560, `000000011111`. -/
def execWX2560 (s : State) : Result := runCodeword .white 2560 12 s

/-! ## Black terminating codes (spec 30_encoding.md R107) -/

/-- BT0, `0000110111`. -/
def execBT0 (s : State) : Result := runCodeword .black 0 10 s

/-- BT1, `010`. -/
def execBT1 (s : State) : Result := runCodeword .black 1 3 s

/-- BT2, `11`. -/
def execBT2 (s : State) : Result := runCodeword .black 2 2 s

/-- BT3, `10`. -/
def execBT3 (s : State) : Result := runCodeword .black 3 2 s

/-- BT4, `011`. -/
def execBT4 (s : State) : Result := runCodeword .black 4 3 s

/-- BT5, `0011`. -/
def execBT5 (s : State) : Result := runCodeword .black 5 4 s

/-- BT6, `0010`. -/
def execBT6 (s : State) : Result := runCodeword .black 6 4 s

/-- BT7, `00011`. -/
def execBT7 (s : State) : Result := runCodeword .black 7 5 s

/-- BT8, `000101`. -/
def execBT8 (s : State) : Result := runCodeword .black 8 6 s

/-- BT9, `000100`. -/
def execBT9 (s : State) : Result := runCodeword .black 9 6 s

/-- BT10, `0000100`. -/
def execBT10 (s : State) : Result := runCodeword .black 10 7 s

/-- BT11, `0000101`. -/
def execBT11 (s : State) : Result := runCodeword .black 11 7 s

/-- BT12, `0000111`. -/
def execBT12 (s : State) : Result := runCodeword .black 12 7 s

/-- BT13, `00000100`. -/
def execBT13 (s : State) : Result := runCodeword .black 13 8 s

/-- BT14, `00000111`. -/
def execBT14 (s : State) : Result := runCodeword .black 14 8 s

/-- BT15, `000011000`. -/
def execBT15 (s : State) : Result := runCodeword .black 15 9 s

/-- BT16, `0000010111`. -/
def execBT16 (s : State) : Result := runCodeword .black 16 10 s

/-- BT17, `0000011000`. -/
def execBT17 (s : State) : Result := runCodeword .black 17 10 s

/-- BT18, `0000001000`. -/
def execBT18 (s : State) : Result := runCodeword .black 18 10 s

/-- BT19, `00001100111`. -/
def execBT19 (s : State) : Result := runCodeword .black 19 11 s

/-- BT20, `00001101000`. -/
def execBT20 (s : State) : Result := runCodeword .black 20 11 s

/-- BT21, `00001101100`. -/
def execBT21 (s : State) : Result := runCodeword .black 21 11 s

/-- BT22, `00000110111`. -/
def execBT22 (s : State) : Result := runCodeword .black 22 11 s

/-- BT23, `00000101000`. -/
def execBT23 (s : State) : Result := runCodeword .black 23 11 s

/-- BT24, `00000010111`. -/
def execBT24 (s : State) : Result := runCodeword .black 24 11 s

/-- BT25, `00000011000`. -/
def execBT25 (s : State) : Result := runCodeword .black 25 11 s

/-- BT26, `000011001010`. -/
def execBT26 (s : State) : Result := runCodeword .black 26 12 s

/-- BT27, `000011001011`. -/
def execBT27 (s : State) : Result := runCodeword .black 27 12 s

/-- BT28, `000011001100`. -/
def execBT28 (s : State) : Result := runCodeword .black 28 12 s

/-- BT29, `000011001101`. -/
def execBT29 (s : State) : Result := runCodeword .black 29 12 s

/-- BT30, `000001101000`. -/
def execBT30 (s : State) : Result := runCodeword .black 30 12 s

/-- BT31, `000001101001`. -/
def execBT31 (s : State) : Result := runCodeword .black 31 12 s

/-- BT32, `000001101010`. -/
def execBT32 (s : State) : Result := runCodeword .black 32 12 s

/-- BT33, `000001101011`. -/
def execBT33 (s : State) : Result := runCodeword .black 33 12 s

/-- BT34, `000011010010`. -/
def execBT34 (s : State) : Result := runCodeword .black 34 12 s

/-- BT35, `000011010011`. -/
def execBT35 (s : State) : Result := runCodeword .black 35 12 s

/-- BT36, `000011010100`. -/
def execBT36 (s : State) : Result := runCodeword .black 36 12 s

/-- BT37, `000011010101`. -/
def execBT37 (s : State) : Result := runCodeword .black 37 12 s

/-- BT38, `000011010110`. -/
def execBT38 (s : State) : Result := runCodeword .black 38 12 s

/-- BT39, `000011010111`. -/
def execBT39 (s : State) : Result := runCodeword .black 39 12 s

/-- BT40, `000001101100`. -/
def execBT40 (s : State) : Result := runCodeword .black 40 12 s

/-- BT41, `000001101101`. -/
def execBT41 (s : State) : Result := runCodeword .black 41 12 s

/-- BT42, `000011011010`. -/
def execBT42 (s : State) : Result := runCodeword .black 42 12 s

/-- BT43, `000011011011`. -/
def execBT43 (s : State) : Result := runCodeword .black 43 12 s

/-- BT44, `000001010100`. -/
def execBT44 (s : State) : Result := runCodeword .black 44 12 s

/-- BT45, `000001010101`. -/
def execBT45 (s : State) : Result := runCodeword .black 45 12 s

/-- BT46, `000001010110`. -/
def execBT46 (s : State) : Result := runCodeword .black 46 12 s

/-- BT47, `000001010111`. -/
def execBT47 (s : State) : Result := runCodeword .black 47 12 s

/-- BT48, `000001100100`. -/
def execBT48 (s : State) : Result := runCodeword .black 48 12 s

/-- BT49, `000001100101`. -/
def execBT49 (s : State) : Result := runCodeword .black 49 12 s

/-- BT50, `000001010010`. -/
def execBT50 (s : State) : Result := runCodeword .black 50 12 s

/-- BT51, `000001010011`. -/
def execBT51 (s : State) : Result := runCodeword .black 51 12 s

/-- BT52, `000000100100`. -/
def execBT52 (s : State) : Result := runCodeword .black 52 12 s

/-- BT53, `000000110111`. -/
def execBT53 (s : State) : Result := runCodeword .black 53 12 s

/-- BT54, `000000111000`. -/
def execBT54 (s : State) : Result := runCodeword .black 54 12 s

/-- BT55, `000000100111`. -/
def execBT55 (s : State) : Result := runCodeword .black 55 12 s

/-- BT56, `000000101000`. -/
def execBT56 (s : State) : Result := runCodeword .black 56 12 s

/-- BT57, `000001011000`. -/
def execBT57 (s : State) : Result := runCodeword .black 57 12 s

/-- BT58, `000001011001`. -/
def execBT58 (s : State) : Result := runCodeword .black 58 12 s

/-- BT59, `000000101011`. -/
def execBT59 (s : State) : Result := runCodeword .black 59 12 s

/-- BT60, `000000101100`. -/
def execBT60 (s : State) : Result := runCodeword .black 60 12 s

/-- BT61, `000001011010`. -/
def execBT61 (s : State) : Result := runCodeword .black 61 12 s

/-- BT62, `000001100110`. -/
def execBT62 (s : State) : Result := runCodeword .black 62 12 s

/-- BT63, `000001100111`. -/
def execBT63 (s : State) : Result := runCodeword .black 63 12 s

/-! ## Black makeup codes (spec 30_encoding.md R108) -/

/-- BM64, `0000001111`. -/
def execBM64 (s : State) : Result := runCodeword .black 64 10 s

/-- BM128, `000011001000`. -/
def execBM128 (s : State) : Result := runCodeword .black 128 12 s

/-- BM192, `000011001001`. -/
def execBM192 (s : State) : Result := runCodeword .black 192 12 s

/-- BM256, `000001011011`. -/
def execBM256 (s : State) : Result := runCodeword .black 256 12 s

/-- BM320, `000000110011`. -/
def execBM320 (s : State) : Result := runCodeword .black 320 12 s

/-- BM384, `000000110100`. -/
def execBM384 (s : State) : Result := runCodeword .black 384 12 s

/-- BM448, `000000110101`. -/
def execBM448 (s : State) : Result := runCodeword .black 448 12 s

/-- BM512, `0000001101100`. -/
def execBM512 (s : State) : Result := runCodeword .black 512 13 s

/-- BM576, `0000001101101`. -/
def execBM576 (s : State) : Result := runCodeword .black 576 13 s

/-- BM640, `0000001001010`. -/
def execBM640 (s : State) : Result := runCodeword .black 640 13 s

/-- BM704, `0000001001011`. -/
def execBM704 (s : State) : Result := runCodeword .black 704 13 s

/-- BM768, `0000001001100`. -/
def execBM768 (s : State) : Result := runCodeword .black 768 13 s

/-- BM832, `0000001001101`. -/
def execBM832 (s : State) : Result := runCodeword .black 832 13 s

/-- BM896, `0000001110010`. -/
def execBM896 (s : State) : Result := runCodeword .black 896 13 s

/-- BM960, `0000001110011`. -/
def execBM960 (s : State) : Result := runCodeword .black 960 13 s

/-- BM1024, `0000001110100`. -/
def execBM1024 (s : State) : Result := runCodeword .black 1024 13 s

/-- BM1088, `0000001110101`. -/
def execBM1088 (s : State) : Result := runCodeword .black 1088 13 s

/-- BM1152, `0000001110110`. -/
def execBM1152 (s : State) : Result := runCodeword .black 1152 13 s

/-- BM1216, `0000001110111`. -/
def execBM1216 (s : State) : Result := runCodeword .black 1216 13 s

/-- BM1280, `0000001010010`. -/
def execBM1280 (s : State) : Result := runCodeword .black 1280 13 s

/-- BM1344, `0000001010011`. -/
def execBM1344 (s : State) : Result := runCodeword .black 1344 13 s

/-- BM1408, `0000001010100`. -/
def execBM1408 (s : State) : Result := runCodeword .black 1408 13 s

/-- BM1472, `0000001010101`. -/
def execBM1472 (s : State) : Result := runCodeword .black 1472 13 s

/-- BM1536, `0000001011010`. -/
def execBM1536 (s : State) : Result := runCodeword .black 1536 13 s

/-- BM1600, `0000001011011`. -/
def execBM1600 (s : State) : Result := runCodeword .black 1600 13 s

/-- BM1664, `0000001100100`. -/
def execBM1664 (s : State) : Result := runCodeword .black 1664 13 s

/-- BM1728, `0000001100101`. -/
def execBM1728 (s : State) : Result := runCodeword .black 1728 13 s

/-! ## Black extended makeup codes (spec 30_encoding.md R109) -/

/-- BX1792, `00000001000`. -/
def execBX1792 (s : State) : Result := runCodeword .black 1792 11 s

/-- BX1856, `00000001100`. -/
def execBX1856 (s : State) : Result := runCodeword .black 1856 11 s

/-- BX1920, `00000001101`. -/
def execBX1920 (s : State) : Result := runCodeword .black 1920 11 s

/-- BX1984, `000000010010`. -/
def execBX1984 (s : State) : Result := runCodeword .black 1984 12 s

/-- BX2048, `000000010011`. -/
def execBX2048 (s : State) : Result := runCodeword .black 2048 12 s

/-- BX2112, `000000010100`. -/
def execBX2112 (s : State) : Result := runCodeword .black 2112 12 s

/-- BX2176, `000000010101`. -/
def execBX2176 (s : State) : Result := runCodeword .black 2176 12 s

/-- BX2240, `000000010110`. -/
def execBX2240 (s : State) : Result := runCodeword .black 2240 12 s

/-- BX2304, `000000010111`. -/
def execBX2304 (s : State) : Result := runCodeword .black 2304 12 s

/-- BX2368, `000000011100`. -/
def execBX2368 (s : State) : Result := runCodeword .black 2368 12 s

/-- BX2432, `000000011101`. -/
def execBX2432 (s : State) : Result := runCodeword .black 2432 12 s

/-- BX2496, `000000011110`. -/
def execBX2496 (s : State) : Result := runCodeword .black 2496 12 s

/-- BX2560, `000000011111`. -/
def execBX2560 (s : State) : Result := runCodeword .black 2560 12 s

end Sys2Proof.Machine
end

