-- ==== Sys2Proof/Machine/Dispatch.lean ====
section
/-! DEFINITION. The dispatch: one arm per instruction, each one direct call of its meaning. -/
namespace Sys2Proof.Machine

/-- The meaning of every instruction. -/
def exec (i : Instr) (s : State) : Host.Outcome State Fault Refusal :=
  match i with
  | .mmrInit bytes => Sys2Proof.Machine.execMmrInit bytes s
  | .mmrScanruns => Sys2Proof.Machine.execMmrScanruns s
  | .mmrScanrle => Sys2Proof.Machine.execMmrScanrle s
  | .jb2Direct dw dh => Sys2Proof.Machine.execJb2Direct dw dh s
  | .jb2Cross dw dh mb box => Sys2Proof.Machine.execJb2Cross dw dh mb box s
  | .ctxInit => Sys2Proof.Machine.execCtxInit s
  | .writeCtrl v => Sys2Proof.Machine.execWriteCtrl v s
  | .readReg n => Sys2Proof.Machine.execReadReg n s
  | .reserved opcode => Sys2Proof.Machine.execReserved opcode s
  | .p => Sys2Proof.Machine.execP s
  | .h => Sys2Proof.Machine.execH s
  | .v0 => Sys2Proof.Machine.execV0 s
  | .vr1 => Sys2Proof.Machine.execVR1 s
  | .vr2 => Sys2Proof.Machine.execVR2 s
  | .vr3 => Sys2Proof.Machine.execVR3 s
  | .vl1 => Sys2Proof.Machine.execVL1 s
  | .vl2 => Sys2Proof.Machine.execVL2 s
  | .vl3 => Sys2Proof.Machine.execVL3 s
  | .eofb => Sys2Proof.Machine.execEofb s
  | .unc => Sys2Proof.Machine.execUnc s
  | .u1 => Sys2Proof.Machine.execU1 s
  | .u01 => Sys2Proof.Machine.execU01 s
  | .u001 => Sys2Proof.Machine.execU001 s
  | .u0001 => Sys2Proof.Machine.execU0001 s
  | .u00001 => Sys2Proof.Machine.execU00001 s
  | .u00000 => Sys2Proof.Machine.execU00000 s
  | .ux t => Sys2Proof.Machine.execUx t s
  | .wt0 => Sys2Proof.Machine.execWT0 s
  | .wt1 => Sys2Proof.Machine.execWT1 s
  | .wt2 => Sys2Proof.Machine.execWT2 s
  | .wt3 => Sys2Proof.Machine.execWT3 s
  | .wt4 => Sys2Proof.Machine.execWT4 s
  | .wt5 => Sys2Proof.Machine.execWT5 s
  | .wt6 => Sys2Proof.Machine.execWT6 s
  | .wt7 => Sys2Proof.Machine.execWT7 s
  | .wt8 => Sys2Proof.Machine.execWT8 s
  | .wt9 => Sys2Proof.Machine.execWT9 s
  | .wt10 => Sys2Proof.Machine.execWT10 s
  | .wt11 => Sys2Proof.Machine.execWT11 s
  | .wt12 => Sys2Proof.Machine.execWT12 s
  | .wt13 => Sys2Proof.Machine.execWT13 s
  | .wt14 => Sys2Proof.Machine.execWT14 s
  | .wt15 => Sys2Proof.Machine.execWT15 s
  | .wt16 => Sys2Proof.Machine.execWT16 s
  | .wt17 => Sys2Proof.Machine.execWT17 s
  | .wt18 => Sys2Proof.Machine.execWT18 s
  | .wt19 => Sys2Proof.Machine.execWT19 s
  | .wt20 => Sys2Proof.Machine.execWT20 s
  | .wt21 => Sys2Proof.Machine.execWT21 s
  | .wt22 => Sys2Proof.Machine.execWT22 s
  | .wt23 => Sys2Proof.Machine.execWT23 s
  | .wt24 => Sys2Proof.Machine.execWT24 s
  | .wt25 => Sys2Proof.Machine.execWT25 s
  | .wt26 => Sys2Proof.Machine.execWT26 s
  | .wt27 => Sys2Proof.Machine.execWT27 s
  | .wt28 => Sys2Proof.Machine.execWT28 s
  | .wt29 => Sys2Proof.Machine.execWT29 s
  | .wt30 => Sys2Proof.Machine.execWT30 s
  | .wt31 => Sys2Proof.Machine.execWT31 s
  | .wt32 => Sys2Proof.Machine.execWT32 s
  | .wt33 => Sys2Proof.Machine.execWT33 s
  | .wt34 => Sys2Proof.Machine.execWT34 s
  | .wt35 => Sys2Proof.Machine.execWT35 s
  | .wt36 => Sys2Proof.Machine.execWT36 s
  | .wt37 => Sys2Proof.Machine.execWT37 s
  | .wt38 => Sys2Proof.Machine.execWT38 s
  | .wt39 => Sys2Proof.Machine.execWT39 s
  | .wt40 => Sys2Proof.Machine.execWT40 s
  | .wt41 => Sys2Proof.Machine.execWT41 s
  | .wt42 => Sys2Proof.Machine.execWT42 s
  | .wt43 => Sys2Proof.Machine.execWT43 s
  | .wt44 => Sys2Proof.Machine.execWT44 s
  | .wt45 => Sys2Proof.Machine.execWT45 s
  | .wt46 => Sys2Proof.Machine.execWT46 s
  | .wt47 => Sys2Proof.Machine.execWT47 s
  | .wt48 => Sys2Proof.Machine.execWT48 s
  | .wt49 => Sys2Proof.Machine.execWT49 s
  | .wt50 => Sys2Proof.Machine.execWT50 s
  | .wt51 => Sys2Proof.Machine.execWT51 s
  | .wt52 => Sys2Proof.Machine.execWT52 s
  | .wt53 => Sys2Proof.Machine.execWT53 s
  | .wt54 => Sys2Proof.Machine.execWT54 s
  | .wt55 => Sys2Proof.Machine.execWT55 s
  | .wt56 => Sys2Proof.Machine.execWT56 s
  | .wt57 => Sys2Proof.Machine.execWT57 s
  | .wt58 => Sys2Proof.Machine.execWT58 s
  | .wt59 => Sys2Proof.Machine.execWT59 s
  | .wt60 => Sys2Proof.Machine.execWT60 s
  | .wt61 => Sys2Proof.Machine.execWT61 s
  | .wt62 => Sys2Proof.Machine.execWT62 s
  | .wt63 => Sys2Proof.Machine.execWT63 s
  | .wm64 => Sys2Proof.Machine.execWM64 s
  | .wm128 => Sys2Proof.Machine.execWM128 s
  | .wm192 => Sys2Proof.Machine.execWM192 s
  | .wm256 => Sys2Proof.Machine.execWM256 s
  | .wm320 => Sys2Proof.Machine.execWM320 s
  | .wm384 => Sys2Proof.Machine.execWM384 s
  | .wm448 => Sys2Proof.Machine.execWM448 s
  | .wm512 => Sys2Proof.Machine.execWM512 s
  | .wm576 => Sys2Proof.Machine.execWM576 s
  | .wm640 => Sys2Proof.Machine.execWM640 s
  | .wm704 => Sys2Proof.Machine.execWM704 s
  | .wm768 => Sys2Proof.Machine.execWM768 s
  | .wm832 => Sys2Proof.Machine.execWM832 s
  | .wm896 => Sys2Proof.Machine.execWM896 s
  | .wm960 => Sys2Proof.Machine.execWM960 s
  | .wm1024 => Sys2Proof.Machine.execWM1024 s
  | .wm1088 => Sys2Proof.Machine.execWM1088 s
  | .wm1152 => Sys2Proof.Machine.execWM1152 s
  | .wm1216 => Sys2Proof.Machine.execWM1216 s
  | .wm1280 => Sys2Proof.Machine.execWM1280 s
  | .wm1344 => Sys2Proof.Machine.execWM1344 s
  | .wm1408 => Sys2Proof.Machine.execWM1408 s
  | .wm1472 => Sys2Proof.Machine.execWM1472 s
  | .wm1536 => Sys2Proof.Machine.execWM1536 s
  | .wm1600 => Sys2Proof.Machine.execWM1600 s
  | .wm1664 => Sys2Proof.Machine.execWM1664 s
  | .wm1728 => Sys2Proof.Machine.execWM1728 s
  | .wx1792 => Sys2Proof.Machine.execWX1792 s
  | .wx1856 => Sys2Proof.Machine.execWX1856 s
  | .wx1920 => Sys2Proof.Machine.execWX1920 s
  | .wx1984 => Sys2Proof.Machine.execWX1984 s
  | .wx2048 => Sys2Proof.Machine.execWX2048 s
  | .wx2112 => Sys2Proof.Machine.execWX2112 s
  | .wx2176 => Sys2Proof.Machine.execWX2176 s
  | .wx2240 => Sys2Proof.Machine.execWX2240 s
  | .wx2304 => Sys2Proof.Machine.execWX2304 s
  | .wx2368 => Sys2Proof.Machine.execWX2368 s
  | .wx2432 => Sys2Proof.Machine.execWX2432 s
  | .wx2496 => Sys2Proof.Machine.execWX2496 s
  | .wx2560 => Sys2Proof.Machine.execWX2560 s
  | .bt0 => Sys2Proof.Machine.execBT0 s
  | .bt1 => Sys2Proof.Machine.execBT1 s
  | .bt2 => Sys2Proof.Machine.execBT2 s
  | .bt3 => Sys2Proof.Machine.execBT3 s
  | .bt4 => Sys2Proof.Machine.execBT4 s
  | .bt5 => Sys2Proof.Machine.execBT5 s
  | .bt6 => Sys2Proof.Machine.execBT6 s
  | .bt7 => Sys2Proof.Machine.execBT7 s
  | .bt8 => Sys2Proof.Machine.execBT8 s
  | .bt9 => Sys2Proof.Machine.execBT9 s
  | .bt10 => Sys2Proof.Machine.execBT10 s
  | .bt11 => Sys2Proof.Machine.execBT11 s
  | .bt12 => Sys2Proof.Machine.execBT12 s
  | .bt13 => Sys2Proof.Machine.execBT13 s
  | .bt14 => Sys2Proof.Machine.execBT14 s
  | .bt15 => Sys2Proof.Machine.execBT15 s
  | .bt16 => Sys2Proof.Machine.execBT16 s
  | .bt17 => Sys2Proof.Machine.execBT17 s
  | .bt18 => Sys2Proof.Machine.execBT18 s
  | .bt19 => Sys2Proof.Machine.execBT19 s
  | .bt20 => Sys2Proof.Machine.execBT20 s
  | .bt21 => Sys2Proof.Machine.execBT21 s
  | .bt22 => Sys2Proof.Machine.execBT22 s
  | .bt23 => Sys2Proof.Machine.execBT23 s
  | .bt24 => Sys2Proof.Machine.execBT24 s
  | .bt25 => Sys2Proof.Machine.execBT25 s
  | .bt26 => Sys2Proof.Machine.execBT26 s
  | .bt27 => Sys2Proof.Machine.execBT27 s
  | .bt28 => Sys2Proof.Machine.execBT28 s
  | .bt29 => Sys2Proof.Machine.execBT29 s
  | .bt30 => Sys2Proof.Machine.execBT30 s
  | .bt31 => Sys2Proof.Machine.execBT31 s
  | .bt32 => Sys2Proof.Machine.execBT32 s
  | .bt33 => Sys2Proof.Machine.execBT33 s
  | .bt34 => Sys2Proof.Machine.execBT34 s
  | .bt35 => Sys2Proof.Machine.execBT35 s
  | .bt36 => Sys2Proof.Machine.execBT36 s
  | .bt37 => Sys2Proof.Machine.execBT37 s
  | .bt38 => Sys2Proof.Machine.execBT38 s
  | .bt39 => Sys2Proof.Machine.execBT39 s
  | .bt40 => Sys2Proof.Machine.execBT40 s
  | .bt41 => Sys2Proof.Machine.execBT41 s
  | .bt42 => Sys2Proof.Machine.execBT42 s
  | .bt43 => Sys2Proof.Machine.execBT43 s
  | .bt44 => Sys2Proof.Machine.execBT44 s
  | .bt45 => Sys2Proof.Machine.execBT45 s
  | .bt46 => Sys2Proof.Machine.execBT46 s
  | .bt47 => Sys2Proof.Machine.execBT47 s
  | .bt48 => Sys2Proof.Machine.execBT48 s
  | .bt49 => Sys2Proof.Machine.execBT49 s
  | .bt50 => Sys2Proof.Machine.execBT50 s
  | .bt51 => Sys2Proof.Machine.execBT51 s
  | .bt52 => Sys2Proof.Machine.execBT52 s
  | .bt53 => Sys2Proof.Machine.execBT53 s
  | .bt54 => Sys2Proof.Machine.execBT54 s
  | .bt55 => Sys2Proof.Machine.execBT55 s
  | .bt56 => Sys2Proof.Machine.execBT56 s
  | .bt57 => Sys2Proof.Machine.execBT57 s
  | .bt58 => Sys2Proof.Machine.execBT58 s
  | .bt59 => Sys2Proof.Machine.execBT59 s
  | .bt60 => Sys2Proof.Machine.execBT60 s
  | .bt61 => Sys2Proof.Machine.execBT61 s
  | .bt62 => Sys2Proof.Machine.execBT62 s
  | .bt63 => Sys2Proof.Machine.execBT63 s
  | .bm64 => Sys2Proof.Machine.execBM64 s
  | .bm128 => Sys2Proof.Machine.execBM128 s
  | .bm192 => Sys2Proof.Machine.execBM192 s
  | .bm256 => Sys2Proof.Machine.execBM256 s
  | .bm320 => Sys2Proof.Machine.execBM320 s
  | .bm384 => Sys2Proof.Machine.execBM384 s
  | .bm448 => Sys2Proof.Machine.execBM448 s
  | .bm512 => Sys2Proof.Machine.execBM512 s
  | .bm576 => Sys2Proof.Machine.execBM576 s
  | .bm640 => Sys2Proof.Machine.execBM640 s
  | .bm704 => Sys2Proof.Machine.execBM704 s
  | .bm768 => Sys2Proof.Machine.execBM768 s
  | .bm832 => Sys2Proof.Machine.execBM832 s
  | .bm896 => Sys2Proof.Machine.execBM896 s
  | .bm960 => Sys2Proof.Machine.execBM960 s
  | .bm1024 => Sys2Proof.Machine.execBM1024 s
  | .bm1088 => Sys2Proof.Machine.execBM1088 s
  | .bm1152 => Sys2Proof.Machine.execBM1152 s
  | .bm1216 => Sys2Proof.Machine.execBM1216 s
  | .bm1280 => Sys2Proof.Machine.execBM1280 s
  | .bm1344 => Sys2Proof.Machine.execBM1344 s
  | .bm1408 => Sys2Proof.Machine.execBM1408 s
  | .bm1472 => Sys2Proof.Machine.execBM1472 s
  | .bm1536 => Sys2Proof.Machine.execBM1536 s
  | .bm1600 => Sys2Proof.Machine.execBM1600 s
  | .bm1664 => Sys2Proof.Machine.execBM1664 s
  | .bm1728 => Sys2Proof.Machine.execBM1728 s
  | .bx1792 => Sys2Proof.Machine.execBX1792 s
  | .bx1856 => Sys2Proof.Machine.execBX1856 s
  | .bx1920 => Sys2Proof.Machine.execBX1920 s
  | .bx1984 => Sys2Proof.Machine.execBX1984 s
  | .bx2048 => Sys2Proof.Machine.execBX2048 s
  | .bx2112 => Sys2Proof.Machine.execBX2112 s
  | .bx2176 => Sys2Proof.Machine.execBX2176 s
  | .bx2240 => Sys2Proof.Machine.execBX2240 s
  | .bx2304 => Sys2Proof.Machine.execBX2304 s
  | .bx2368 => Sys2Proof.Machine.execBX2368 s
  | .bx2432 => Sys2Proof.Machine.execBX2432 s
  | .bx2496 => Sys2Proof.Machine.execBX2496 s
  | .bx2560 => Sys2Proof.Machine.execBX2560 s

end Sys2Proof.Machine
end

