-- ==== Sys2Proof/Machine/Fetch.lean ====
section
/-! DEFINITION. The fetch: what the block takes up next, the events of the host between commands (reset, the start of ZP), and the
placing of an opcode table row's word where the fetch finds it.
-/
namespace Sys2Proof.Machine

/-- What the next step takes up. -/
inductive Fetched where
  /-- The block waits: between commands with nothing issued, or inside a JB2 command for a response that never comes. -/
  | nothing
  /-- The reset event. -/
  | reset
  /-- The host starts ZP in the state `z0`. -/
  | zpStart (z0 : Nat)
  /-- A source for the decoder: a command, or the peek window with the codebooks of the position. -/
  | source (src : Source)
  deriving DecidableEq, Repr

/-- The fetch. Inside a scan command it is the peek window read through the codebooks of the position; between commands it is the
oldest thing the host has issued (spec 30_encoding.md R115, 46_control.md R294). A command that waits for ZP is not over, so nothing
is taken from the host (70_reset_and_hazards.md R340, R349). -/
def fetch (s : State) : Fetched :=
  match s.books with
  | some books => .source (.window books s.window)
  | none =>
    if s.pos = .zpWait then .nothing
    else
      match s.inbox with
      | [] => .nothing
      | .reset :: _ => .reset
      | .zpStart z0 :: _ => .zpStart z0
      | .command c :: _ => .source (.command c)

/-- The block accepts what the host issued: it leaves the queue, and no result stands in the port (spec 46_control.md R294). -/
def State.accept (s : State) : State := { s with inbox := s.inbox.tail, result := none }

/-- The state that an instruction from a source runs in: a command is accepted first, a codeword runs in the state it was fetched
in. -/
def State.fetchedState (s : State) : Source → State
  | .command _ => s.accept
  | .window _ _ => s

/-- A source that decodes to no instruction. For a codeword it is the failed lookup, an MMR error (spec 20_memory.md R67); a command
packet that is no command of the interface has no meaning (log 1). -/
def undecoded (e : DecodeError) (s : State) : Source → Result
  | .command _ => .refused (.illFormedCommand e)
  | .window _ _ => lookupFailed s

/-- The reset event (spec 70_reset_and_hazards.md R340): every register at its reset value; the ZP agent, S and what the host has
issued after it stay (10_state.md R40); the unspecified registers hold free values (log 14). -/
def takeReset (s : State) : State :=
  ({ State.reset with
    stream := s.stream
    zp := s.zp
    inbox := s.inbox.tail
    freeCount := s.freeCount } : State).freeRow.freeJb2

/-- The host starts the ZP agent in the state `z0`; the block's state stays (spec 70_reset_and_hazards.md R346). -/
def startZp (z0 : Nat) (s : State) : State := { s with zp := z0, inbox := s.inbox.tail }

/-! ## Placing a row's word (log 21) -/

/-- A row in progress for a codeword to run in: an ACTIVE stream of the largest image, its first row just started. A state that is
ACTIVE already keeps its stream and its row. -/
def State.openRow (s : State) : State :=
  if s.mmrState = .active then s
  else rowStart { s with
    mmrState := .active
    width := 0xffff
    height := 0xffff
    rps := 0xffff
    lineno := 0
    ref := [0xffff] }

/-- The sequencer at the position where a codebook's words are read. -/
def State.atBook (s : State) : Book → State
  | .mode => { s with pos := .mode }
  | .esc => { s with pos := .mode }
  | .unc => { s with pos := .unc }
  | .white => { s with pos := .run1, color := .white }
  | .black => { s with pos := .run1, color := .black }

/-- A window's four bytes as the whole stripe data. -/
def State.withWindow (s : State) (w : BitVec 32) : State := { s with sdata := be32 w, bitpos := 0 }

/-- The instruction of a row's word placed where the next step fetches it. -/
def placeWord (s : State) (nbits w : Nat) : State :=
  if nbits ≤ 8 then
    { s with
      pos := .idle
      inbox := .command ⟨BitVec.ofNat 8 w, zeroOperands (BitVec.ofNat 8 w)⟩ :: s.inbox }
  else
    match decodeTableWord nbits w with
    | some i =>
      match encode i with
      | .codeword book _ _ => (s.openRow.withWindow (BitVec.ofNat 32 w)).atBook book
      | .command _ => s
    | none => (s.openRow.withWindow (BitVec.ofNat 32 w)).atBook .mode

end Sys2Proof.Machine
end

