-- ==== Sys2Proof/Machine/Step.lean ====
section
/-! DEFINITION. One step: take up what the fetch gives, decode it, run it.
-/
namespace Sys2Proof.Machine

/-- One step of the machine. With nothing issued the block waits (spec 70_reset_and_hazards.md R340), and so it does at a ZP request
that is never answered (R349). -/
def step (s : State) : Host.Outcome State Fault Refusal :=
  match fetch s with
  | .nothing => .next s
  | .reset => .next (takeReset s)
  | .zpStart z0 => .next (startZp z0 s)
  | .source src =>
    match decode src with
    | .ok i => exec i (s.fetchedState src)
    | .error e => undecoded e s src

/-- The state with the instruction of an opcode table row's word where the next step fetches it (log 20, 21). -/
def State.withFetchWord (s : State) (nbits w : Nat) : State := placeWord s nbits w

end Sys2Proof.Machine
end

