-- ==== Sys2Proof/Safety.lean ====
section
/-! DEFINITION. What counts as a sound state, and the terms that claims are stated in: the invariants of the spec's prose (10_state.md
R27, R36, 20_memory.md R60, 40_mmr_modes.md R170, 60_exceptions.md R320), the pixels of a row, the reader of the RLE bytes
(30_encoding.md R119), the two units' parts of the state (46_control.md R294), the state after a returned row, and the JB2
loop that computes every context afresh (44_jb2_direct.md R243).
-/
namespace Sys2Proof.Machine

/-! ## Invariants -/

/-- The stream and bit-cursor bounds: S and SDATA within 2^32 - 1 bytes, SP within S, BITPOS within SBITS (spec 20_memory.md R60,
10_state.md R25: "`BITPOS` never wraps"). -/
abbrev CursorOk (s : State) : Prop :=
  s.stream.length < 4294967296 ∧ s.sdata.length < 4294967296 ∧ s.sp.toNat ≤ s.stream.length ∧ s.bitpos.toNat ≤ s.sbits

/-- A line of runs: at most `RUNCAP(W)` runs, each below 2^18 (spec 10_state.md R26). -/
abbrev RunsFit (w : Nat) (l : List Nat) : Prop := l.length ≤ Config.runCap w ∧ ∀ r ∈ l, r < 262144

/-- An ACTIVE stream: W is positive, rows remain, and the reference line's runs sum to W (spec 10_state.md R29,
40_mmr_modes.md R169). -/
abbrev LineOk (s : State) : Prop :=
  0 < s.width.toNat ∧ s.lineno.toNat < s.height.toNat ∧ s.ref.sum = s.width.toNat ∧ RunsFit s.width.toNat s.ref

/-- The row being decoded: its runs fit, and with the pending run they sum to A0 (spec 40_mmr_modes.md R170 (d)). -/
abbrev CurOk (s : State) : Prop :=
  RunsFit s.width.toNat s.cur ∧ 0 ≤ s.rle ∧ (s.cur.sum : Int) + s.rle = s.a0

/-- The reference pointer: B1 is the sum of the runs before PR, PR has the parity of the opposite colour, and PR is at most
NREF + 1 (spec 40_mmr_modes.md R170 (a), (c), (f)). -/
abbrev PointerOk (s : State) : Prop :=
  s.b1 = ((s.ref.take s.pr).sum : Int) ∧ 1 ≤ s.pr ∧ s.pr % 2 = (s.color.toNat + 1) % 2 ∧ s.pr ≤ s.ref.length + 1

/-- The next emitted run has colour `COLOR` (spec 40_mmr_modes.md R170 (e)). -/
abbrev ParityOk (s : State) : Prop := s.cur.length % 2 = s.color.toNat

/-- The row invariants at every position (spec 40_mmr_modes.md R170, with `B1 ≥ A0` in place of (b), see log 23;
41_mmr_escapes.md R196; 40_mmr_modes.md R166). -/
abbrev RowOk (s : State) : Prop :=
  (s.mmrState = .active → LineOk s) ∧
  (s.pos ≠ .idle → s.pos ≠ .zpWait → s.mmrState = .active ∧ CurOk s) ∧
  (s.pos = .mode → s.a0 < s.width.toNat ∧ s.a0 ≤ s.b1 ∧ PointerOk s ∧ ParityOk s) ∧
  (s.pos = .run1 → s.a0 ≤ Config.a0Limit ∧ PointerOk s ∧ ParityOk s) ∧
  (s.pos = .run2 → s.a0 ≤ Config.a0Limit ∧ PointerOk s ∧ s.cur.length % 2 = s.color.other.toNat) ∧
  (s.pos = .unc → s.a0 ≤ s.width.toNat ∧ ParityOk s) ∧
  (s.pos = .trailing → s.a0 = s.width.toNat ∧ 0 < s.rle ∧ ParityOk s)

/-- The run list in the result port, if a row of runs stands there. -/
def returnedRuns : Option CmdResult → Option (List Nat)
  | some (.ok (.runs l)) => some l
  | _ => none

/-- The code in the result port, if an `Err` stands there. -/
def returnedError : Option CmdResult → Option ErrCode
  | some (.err e) => some e
  | _ => none

/-- A row that stands in the result port sums to W (spec 42_mmr_commands.md R222 (a)). -/
abbrev ReturnedRowOk (s : State) : Prop := ∀ l ∈ returnedRuns s.result, l.sum = s.width.toNat

/-- The error registers tell one story: FAILED holds an MMR error, `JB2_FAILED` a JB2 error and only it, an `Err` in the result port
is `LAST_ERR`, and the codes 4 and 5 are in no register (spec 60_exceptions.md R300, R304, R305, R309-R311, 10_state.md R36). -/
abbrev ErrorsOk (s : State) : Prop :=
  (s.mmrState = .failed → s.mmrErr ≠ .noError) ∧
  (s.jb2Failed = true → s.jb2Err ≠ .noError) ∧ (s.jb2Failed = false → s.jb2Err = .noError) ∧
  s.mmrErr ∉ [.badCodebook, .badDictionary] ∧ s.jb2Err ∉ [.badCodebook, .badDictionary] ∧
  s.lastErr ∉ [.badCodebook, .badDictionary] ∧
  (∀ e ∈ returnedError s.result, e = s.lastErr ∧ e ≠ .noError)

/-- TB holds TW x TH pixels, and a model bitmap is held only while a command that waits for ZP has not returned
(spec 10_state.md R33, R34; 70_reset_and_hazards.md R349). -/
abbrev BitmapsOk (s : State) : Prop := s.tb.wf = true ∧ (s.pos ≠ .zpWait → s.model = none)

/-! ## Rows as pixels -/

/-- The pixels of a run list whose first run has colour c (spec 10_state.md R26, 00_scope.md R8). -/
def pixelsFrom : Colour → List Nat → List Colour
  | _, [] => []
  | c, n :: l => List.replicate n c ++ pixelsFrom c.other l

/-- The pixels of a row: its run list starts with a white run. -/
def rowPixels (l : List Nat) : List Colour := pixelsFrom .white l

/-- The runs that RLE bytes stand for: a byte below 0xC0 is a run, another combines with the next byte
(spec 30_encoding.md R119). -/
def readUnits : List Byte → List Nat
  | [] => []
  | b :: l =>
    if b.toNat < 0xc0 then b.toNat :: readUnits l
    else
      match l with
      | [] => []
      | b2 :: l => ((b.toNat - 0xc0) * 256 + b2.toNat) :: readUnits l

/-! ## The units' parts of the state -/

/-- The instructions of the MMR unit: its commands and every codeword (spec 46_control.md R294). -/
def mmrInstr : Instr → Bool
  | .jb2Direct _ _ => false
  | .jb2Cross _ _ _ _ => false
  | .ctxInit => false
  | .writeCtrl _ => false
  | .readReg _ => false
  | .reserved _ => false
  | _ => true

/-- The instructions of the JB2 units. -/
def jb2Instr : Instr → Bool
  | .jb2Direct _ _ => true
  | .jb2Cross _ _ _ _ => true
  | .ctxInit => true
  | _ => false

/-- What the JB2 units and the ZP agent own is the same in two states (spec 46_control.md R294). -/
abbrev SameJb2 (s t : State) : Prop :=
  t.jb2Failed = s.jb2Failed ∧ t.jb2Err = s.jb2Err ∧ t.jb2Errx = s.jb2Errx ∧ t.jb2Erry = s.jb2Erry ∧ t.ctxd = s.ctxd ∧
    t.ctxx = s.ctxx ∧ t.tb = s.tb ∧ t.model = s.model ∧ t.x = s.x ∧ t.y = s.y ∧ t.ctx = s.ctx ∧ t.xd2c = s.xd2c ∧
    t.yd2c = s.yd2c ∧ t.zp = s.zp

/-- What the MMR unit owns is the same in two states (spec 46_control.md R294). -/
abbrev SameMmr (s t : State) : Prop :=
  t.mmrState = s.mmrState ∧ t.mmrErr = s.mmrErr ∧ t.width = s.width ∧ t.height = s.height ∧ t.flags = s.flags ∧
    t.rps = s.rps ∧ t.lineno = s.lineno ∧ t.striplineno = s.striplineno ∧ t.stripeno = s.stripeno ∧
    t.bitpos = s.bitpos ∧ t.errrow = s.errrow ∧ t.errbit = s.errbit ∧ t.stream = s.stream ∧ t.sp = s.sp ∧
    t.send = s.send ∧ t.sdata = s.sdata ∧ t.ref = s.ref ∧ t.cur = s.cur ∧ t.a0 = s.a0 ∧ t.b1 = s.b1 ∧ t.pr = s.pr ∧
    t.rle = s.rle ∧ t.color = s.color ∧ t.cwstart = s.cwstart ∧ t.out = s.out

/-! ## Rows and errors as claims state them -/

/-- The payload of a returned row of runs (spec 42_mmr_commands.md R215, R217, R218). -/
def rowPayload (s : State) (row : List Nat) : Payload :=
  let l := if s.flags.getLsbD 0 then invertRuns row else row
  match s.scan with
  | .runs => .runs l
  | .rle => .bytes (encodeRow s.width.toNat l)

/-- The state in which a scan has returned the row: it is the reference line, the row counters have moved, the unit is DONE after
the last row, and the row-local registers hold free values (spec 40_mmr_modes.md R169, 42_mmr_commands.md R215, R218). -/
def rowReturned (s : State) (row : List Nat) : State :=
  State.freeRow { s with
    cur := row
    ref := row
    lineno := s.lineno + 1
    striplineno := s.striplineno + 1
    mmrState := if s.lineno + 1 = s.height then .done else s.mmrState
    out := match rowPayload s row with
      | .bytes b => b
      | _ => s.out
    result := some (.ok (rowPayload s row))
    pos := .idle }

/-- An MMR error with code e at bit position `bit`, raised in the state s, has ended the command in t: what the entry writes, and
that everything the host or a later command can see but the entry does not write is as at the raise point
(spec 60_exceptions.md R309, R320). The queue `inbox` and the port `result` are the model's own (log 15). -/
abbrev MmrFailed (e : ErrCode) (bit : BitVec 35) (s t : State) : Prop :=
  t.mmrState = .failed ∧ t.mmrErr = e ∧ t.lastErr = e ∧ t.errrow = s.lineno ∧ t.errbit = bit ∧
    t.result = some (.err e) ∧ t.pos = .idle ∧ t.bitpos = s.bitpos ∧ t.lineno = s.lineno ∧
    t.striplineno = s.striplineno ∧ t.stripeno = s.stripeno ∧ t.width = s.width ∧ t.height = s.height ∧
    t.flags = s.flags ∧ t.rps = s.rps ∧ t.ref = s.ref ∧ t.stream = s.stream ∧ t.sp = s.sp ∧ t.send = s.send ∧
    t.sdata = s.sdata ∧ t.ovrClamp = s.ovrClamp ∧ t.inbox = s.inbox ∧ SameJb2 s t

/-- The data hold the next n bits (spec 20_memory.md R65). -/
abbrev HasBits (s : State) (n : Nat) : Prop := s.bitpos.toNat + n ≤ s.sbits

/-- BITPOS moved by n bits. -/
abbrev State.after (s : State) (n : Nat) : BitVec 35 := s.bitpos + BitVec.ofNat 35 n

/-- The seven Vertical modes with their offsets k and code lengths (spec 30_encoding.md R103, 40_mmr_modes.md R156-R162). -/
def verticalModes : List (Instr × Int × Nat) :=
  [(.v0, 0, 1), (.vr1, 1, 3), (.vr2, 2, 6), (.vr3, 3, 7), (.vl1, -1, 3), (.vl2, -2, 6), (.vl3, -3, 7)]

/-- The modes other than V0 with their code lengths. -/
def modesButV0 : List (Instr × Nat) :=
  [(.p, 4), (.h, 3), (.vr1, 3), (.vr2, 6), (.vr3, 7), (.vl1, 3), (.vl2, 6), (.vl3, 7)]

/-- The literal codes of uncompressed mode with their numbers of white pixels (spec 41_mmr_escapes.md R194). -/
def literalCodes : List (Instr × Nat) := [(.u1, 0), (.u01, 1), (.u001, 2), (.u0001, 3), (.u00001, 4)]

/-- The two scan commands with what they return. -/
def scanCommands : List (Instr × ScanKind) := [(.mmrScanruns, .runs), (.mmrScanrle, .rle)]

/-- The run that Vertical(k) emits, `inc + RLE - A0` with `inc = B1 + k` (spec 40_mmr_modes.md R163). -/
abbrev verticalRun (s : State) (k : Int) : Int := s.b1 + k + s.rle - s.a0

/-- A run that `Emit(v)` rejects: it is negative, or the row already holds `RUNCAP(W)` = W + 2 runs (spec 40_mmr_modes.md R164,
10_state.md R26). -/
abbrev CannotEmit (s : State) (v : Int) : Prop := v < 0 ∨ s.width.toNat + 2 ≤ s.cur.length

/-- The sum of the reference runs before index j (spec 40_mmr_modes.md R170 (a)). -/
abbrev refPrefix (s : State) (j : Nat) : Int := ((s.ref.take j).sum : Nat)

/-- The table of reset values (spec 10_state.md R40), for the state that the spec gives one value. -/
abbrev ResetTable (t : State) : Prop :=
  t.ctrlReg = 0 ∧ t.statusReg = 0 ∧ t.width = 0 ∧ t.height = 0 ∧ t.flags = 0 ∧ t.rps = 0 ∧ t.lineno = 0 ∧
    t.striplineno = 0 ∧ t.stripeno = 0 ∧ t.bitpos = 0 ∧ t.errrow = 0 ∧ t.errbit = 0 ∧ t.sdata = [] ∧ t.sp = 0 ∧
    t.send = 0 ∧ t.ref = [] ∧ t.cur = [] ∧ t.out = [] ∧ (∀ i : Fin 1024, t.ctxd.get i = Config.cellInit) ∧
    (∀ i : Fin 2048, t.ctxx.get i = Config.cellInit) ∧ t.tb.w = 0 ∧ t.tb.h = 0 ∧ t.tb.px = [] ∧ t.model = none ∧
    t.jb2Errx = 0 ∧ t.jb2Erry = 0

/-- MMR_INIT has ended with code e at bit position `bit` (spec 60_exceptions.md R309, 42_mmr_commands.md R210, R211). The queue
`inbox` and the port `result` are the model's own (log 15). -/
abbrev InitFailed (e : ErrCode) (bit : BitVec 35) (s t : State) : Prop :=
  t.mmrState = .failed ∧ t.mmrErr = e ∧ t.lastErr = e ∧ t.errrow = 0 ∧ t.errbit = bit ∧ t.result = some (.err e) ∧
    t.pos = .idle ∧ t.lineno = 0 ∧ t.striplineno = 0 ∧ t.stripeno = 0 ∧ t.bitpos = 0 ∧ t.sdata = [] ∧ t.ref = [] ∧
    t.ovrClamp = s.ovrClamp ∧ t.inbox = s.inbox ∧ SameJb2 s t

/-! ## The JB2 loop with every context computed afresh -/

/-- One pixel with the full context of spec 44_jb2_direct.md R242 or 45_jb2_cross.md R267 in place of the rolled one. -/
def freshPixel (zp : Zp) (bank : Bank) (s : State) : Except ZpStop State :=
  match zpRequest zp bank { s with ctx := s.fullCtx bank } with
  | none => .error (.noAnswer { s with ctx := s.fullCtx bank })
  | some (.endOfStream, s) => .error (.endOfStream s)
  | some (.bit n, s) => .ok { s with tb := setPix s.tb s.x s.y n, x := s.x + 1 }

/-- The columns of a row, each context afresh. -/
def freshColumns (zp : Zp) (bank : Bank) : Nat → State → Except ZpStop State
  | 0, s => .ok s
  | n + 1, s => do
    let s ← freshPixel zp bank s
    freshColumns zp bank n s

/-- The rows, top row first, each context afresh. -/
def freshRows (zp : Zp) (bank : Bank) : Nat → State → Except ZpStop State
  | 0, s => .ok s
  | n + 1, s => do
    let s ← freshColumns zp bank s.tb.w.toNat { s with x := 0 }
    freshRows zp bank n { s with y := s.y - 1 }

/-- The bitmap loop with every context afresh. -/
def freshBitmap (zp : Zp) (bank : Bank) (dw dh : Word) (s : State) : Except ZpStop State :=
  freshRows zp bank dh.toNat { s with tb := blankBitmap dw dh, y := (dh.toNat : Int) - 1 }

/-- The outcome of a bitmap loop but for the register CTX after its last pixel, which is no result of it. Where the loop stops at a
request, CTX is the request's. -/
def withoutCtx : Except ZpStop State → Except ZpStop State
  | .ok s => .ok { s with ctx := 0 }
  | .error e => .error e

/-- The state that a JB2 command reaches at the end of its bitmap loop: it has returned Ok, or UnexpectedEndOfStream with the pixel
whose request failed (spec 44_jb2_direct.md R244, R246; 60_exceptions.md R310), or it waits, not returned, for the answer to a
request (70_reset_and_hazards.md R349). -/
def bitmapReturned : Except ZpStop State → State
  | .ok u => State.freeJb2 { u with result := some (.ok .unit), pos := .idle }
  | .error (.noAnswer u) => { u with result := none, pos := .zpWait }
  | .error (.endOfStream u) => State.freeJb2 (State.freeTb { u with
      jb2Failed := true
      jb2Err := .unexpectedEndOfStream
      jb2Errx := BitVec.ofInt 32 u.x
      jb2Erry := BitVec.ofInt 32 u.y
      lastErr := .unexpectedEndOfStream
      result := some (.err .unexpectedEndOfStream)
      pos := .idle })

/-- An oracle that answers every request with a bit and counts the requests in its state. -/
def countingZp (answer : Nat → Bank → BitVec 11 → Nat → Bool) (cell : Nat → Bank → BitVec 11 → Nat → Nat) : Zp :=
  fun z bank idx c => some (.bit (answer z bank idx c), z + 1, cell z bank idx c)

end Sys2Proof.Machine
end

