-- ==== Sys2Proof/Certificates/Slice0/Obligations.lean ====
section
/-! DEFINITION. The statements about the machine, for the provers. Each docstring names the rules it formalises; where a clause is the
model's own choice it names the log entry.
-/

open Sys2Proof Sys2Proof.Machine

/-! ## Encoding and decoding -/

/-- Decoding an encoded well-formed instruction gives it back: a command with every operand, a codeword with any bits after it, at
the position where its codebook is fetched (30_encoding.md R101-R109, R113, R114, R122; typed command packets are log 1). -/
def Obligations.DecodeEncodeAgree : Prop :=
  ∀ i : Instr, i.wellFormed = true →
    match encode i with
    | .command c => decode (.command c) = .ok i
    | .codeword book code len => ∀ w : BitVec 32, topBits len w = code → decode (.window book.position w) = .ok i

/-- Some words of the spec's tables, written out, decode to the instructions they stand for (30_encoding.md R103, R105-R109, R113,
R114, R122). -/
def Obligations.SpecWordsDecode : Prop :=
  decode (.window [.mode, .esc] 0b10000000000000000000000000000000#32) = .ok .v0 ∧
  decode (.window [.mode, .esc] 0b00010000000000000000000000000000#32) = .ok .p ∧
  decode (.window [.mode, .esc] 0b00000110000000000000000000000000#32) = .ok .vr3 ∧
  decode (.window [.mode, .esc] 0b00000000000100000000000100000000#32) = .ok .eofb ∧
  decode (.window [.mode, .esc] 0b00000011110000000000000000000000#32) = .ok .unc ∧
  decode (.window [.unc] 0b00000011000000000000000000000000#32) = .ok (.ux .black) ∧
  decode (.window [.white] 0b00110101000000000000000000000000#32) = .ok .wt0 ∧
  decode (.window [.black] 0b00001101110000000000000000000000#32) = .ok .bt0 ∧
  decode (.window [.black] 0b00000001111100000000000000000000#32) = .ok .bx2560 ∧
  decode (.command ⟨0x07, .value 2⟩) = .ok (.writeCtrl 2) ∧
  decode (.command ⟨0x09, .none⟩) = .ok (.reserved 0x09)

/-- Which windows no codeword starts: in MODE_ROM exactly `0000000` and `0000001` (30_encoding.md R104), in each run ROM exactly those
whose first 8 bits are 0 (R110). -/
def Obligations.NoMatchWindows : Prop :=
  ∀ w : BitVec 32,
    (decodeBook .mode w = none ↔ topBits 7 w = 0b0000000 ∨ topBits 7 w = 0b0000001) ∧
    (decodeBook .white w = none ↔ topBits 8 w = 0b00000000) ∧
    (decodeBook .black w = none ↔ topBits 8 w = 0b00000000)

/-- Any run length is expanded to a chain that Horizontal mode reads as that run: makeup codes and then exactly one terminating
code, all of one colour's table, whose values sum to the length (30_encoding.md R111, R112). -/
def Obligations.ExpandIsRunChain : Prop :=
  ∀ (c : Colour) (n : Nat), ∃ (makeup : List RomRow) (last : RomRow),
    expandRun c n = (makeup ++ [last]).map RomRow.instr ∧
    (∀ r ∈ makeup, r ∈ runRom c ∧ 64 ≤ r.value) ∧ last ∈ runRom c ∧ last.value < 64 ∧
    ((makeup ++ [last]).map RomRow.value).sum = n

/-! ## The step -/

/-- A step runs the decoded instruction: a command in the state that has accepted it (it has left the queue and the result port is
empty, log 15), a codeword in the state it was fetched in; with nothing issued the block waits (46_control.md R294,
30_encoding.md R115, 70_reset_and_hazards.md R340), and so it does at a ZP request that is never answered (R349, log 11). -/
def Obligations.StepRunsDecodedInstruction : Prop :=
  ∀ s : State,
    (∀ (c : Command) (rest : List HostEvent) (i : Instr), s.pos = .idle → s.inbox = .command c :: rest →
      decode (.command c) = .ok i → step s = exec i { s with inbox := rest, result := none }) ∧
    (∀ (books : List Book) (i : Instr), s.books = some books → decode (.window books s.window) = .ok i →
      step s = exec i s) ∧
    (s.pos = .idle → s.inbox = [] → step s = .next s) ∧
    (s.pos = .zpWait → step s = .next s)

/-- While a command runs the block takes nothing from the host: no command, no reset (46_control.md R294,
70_reset_and_hazards.md R340). The queue of what the host has issued is the model's own (log 15). -/
def Obligations.BusyTakesNothingFromHost : Prop :=
  ∀ s t : State, s.pos ≠ .idle → step s = .next t → t.inbox = s.inbox

/-- Reset gives every register the value of the table of 10_state.md R40 and leaves the ZP agent and S alone
(70_reset_and_hazards.md R340, R346); the state that a machine starts in has the same table.
How the event arrives is the model's choice (log 14, 15). -/
def Obligations.ResetRestoresTable : Prop :=
  ResetTable State.reset ∧
  ∀ (s : State) (rest : List HostEvent), s.pos = .idle → s.inbox = .reset :: rest →
    ∃ t, step s = .next t ∧ ResetTable t ∧ t.zp = s.zp ∧ t.stream = s.stream ∧ t.inbox = rest ∧ t.pos = .idle ∧
      t.result = none

/-- Peek(n) is the n bits from BITPOS, the first most significant, and bits past the end of the stripe data read 0
(20_memory.md R63, R64). -/
def Obligations.PeekReadsStreamBits : Prop :=
  ∀ (s : State) (n : Nat), 1 ≤ n → n ≤ 32 →
    topBits n s.window =
      ((List.range n).map fun j =>
        (if s.bitpos.toNat + j < s.sbits then
            ((s.sdata.getD ((s.bitpos.toNat + j) / 8) 0).getLsbD (7 - (s.bitpos.toNat + j) % 8)).toNat
          else 0) * 2 ^ (n - 1 - j)).sum

/-- A lookup that finds no codeword raises: UnexpectedEndOfStream when no data bit is left and CorruptMMRStream otherwise, at the
position of the failed lookup, consuming nothing (20_memory.md R67, 40_mmr_modes.md R155, R167, 41_mmr_escapes.md R190, R198,
60_exceptions.md R309). -/
def Obligations.FailedLookupRaises : Prop :=
  ∀ (s : State) (books : List Book), s.books = some books → decodeWindow books s.window = none →
    ∃ t, step s = .next t ∧
      MmrFailed (if s.sbits ≤ s.bitpos.toNat then .unexpectedEndOfStream else .corruptMMRStream) s.bitpos s t

/-- Every codeword but EOFB that raises no error advances BITPOS by exactly its length (10_state.md R25); EOFB is not consumed
(41_mmr_escapes.md R191). One literal code of uncompressed mode is one instruction (log 28). -/
def Obligations.CodewordAdvancesByItsLength : Prop :=
  ∀ (i : Instr) (book : Book) (code len : Nat) (s t : State), encode i = .codeword book code len → CursorOk s →
    exec i s = .next t → t.mmrState ≠ .failed →
    t.bitpos.toNat = s.bitpos.toNat + (if i = .eofb then 0 else len)

/-- Progress (70_reset_and_hazards.md R349): every step inside a scan command ends the command or consumes at least one bit; a bitmap
loop waits only at a ZP request that the oracle does not answer; and a command that waits there never ends, whatever the host has
issued (how an oracle fails to answer is written is the model's choice, log 11). -/
def Obligations.StepConsumesOrEnds : Prop :=
  (∀ s t : State, CursorOk s → s.pos ≠ .idle → s.pos ≠ .zpWait → step s = .next t →
    t.pos = .idle ∨ s.bitpos.toNat < t.bitpos.toNat) ∧
  (∀ (zp : Zp) (bank : Bank) (dw dh : Word) (s u : State), decodeBitmap zp bank dw dh s = .error (.noAnswer u) →
    zp u.zp bank u.ctx (u.cell bank u.ctx) = none) ∧
  ∀ s : State, s.pos = .zpWait → step s = .next s

/-! ## MMR_INIT -/

/-- MMR_INIT on a non-striped chunk with W and H not 0 (42_mmr_commands.md R210-R212, R214; 30_encoding.md R116). The row-local
registers hold free values afterwards (log 7, 29), and OUT is empty (log 30). -/
def Obligations.MmrInitPlainChunk : Prop :=
  ∀ (s : State) (w h : BitVec 16) (inv : Bool) (data : List Byte), s.pos = .idle → w ≠ 0 → h ≠ 0 →
    8 + data.length < 4294967296 →
    exec (.mmrInit (headerBytes w h inv none ++ data)) s = .next (State.freeRow { s with
      mmrState := .active
      stream := headerBytes w h inv none ++ data
      sp := 8
      send := BitVec.ofNat 33 (8 + data.length)
      sdata := data
      bitpos := 0
      lineno := 0
      striplineno := 0
      stripeno := 0
      width := w
      height := h
      flags := if inv then 1 else 0
      rps := h
      ref := [w.toNat]
      cur := []
      out := []
      result := some (.ok .unit)
      pos := .idle })

/-- MMR_INIT on a striped chunk with W, H and RPS not 0: the first stripe is entered, and its data end at the declared length or at
the end of S (42_mmr_commands.md R210, R211, R213, R214; 20_memory.md R68; 30_encoding.md R116, R117). The row-local registers
hold free values afterwards (log 7, 29), and OUT is empty (log 30). -/
def Obligations.MmrInitStripedChunk : Prop :=
  ∀ (s : State) (w h r : BitVec 16) (inv : Bool) (len : BitVec 32) (rest : List Byte), s.pos = .idle → w ≠ 0 → h ≠ 0 →
    r ≠ 0 → 14 + rest.length < 4294967296 →
    exec (.mmrInit (headerBytes w h inv (some r) ++ be32 len ++ rest)) s = .next (State.freeRow { s with
      mmrState := .active
      stream := headerBytes w h inv (some r) ++ be32 len ++ rest
      sp := 14
      send := BitVec.ofNat 33 (14 + len.toNat)
      sdata := rest.take len.toNat
      bitpos := 0
      lineno := 0
      striplineno := 0
      stripeno := 0
      width := w
      height := h
      flags := if inv then 3 else 2
      rps := r
      ref := [w.toNat]
      cur := []
      out := []
      result := some (.ok .unit)
      pos := .idle })

/-- The header checks and the bit positions they record: the masked magic (0), W = 0 or H = 0 (32), RPS = 0 when striped (64)
(60_exceptions.md R307, 42_mmr_commands.md R211). The registers that R211 writes before the failing check hold their fields, MMR_FLAGS
the header's two flag bits; the others hold nothing of an earlier stream (70_reset_and_hazards.md R343), and that they are 0 is
deduced (log 31). -/
def Obligations.MmrInitRejectsBadHeader : Prop :=
  ∀ s : State, s.pos = .idle →
    (∀ (b0 b1 b2 b3 : Byte) (rest : List Byte), (b0 ++ b1 ++ b2 ++ b3) &&& 0xfffffffc#32 ≠ 0x4d4d5200#32 →
      ∃ t, exec (.mmrInit (b0 :: b1 :: b2 :: b3 :: rest)) s = .next t ∧ InitFailed .badMMRHeader 0 s t ∧
        t.width = 0 ∧ t.height = 0 ∧ t.flags = 0 ∧ t.rps = 0) ∧
    (∀ (w h : BitVec 16) (inv : Bool) (stripes : Option (BitVec 16)) (rest : List Byte), w = 0 ∨ h = 0 →
      ∃ t, exec (.mmrInit (headerBytes w h inv stripes ++ rest)) s = .next t ∧ InitFailed .badMMRHeader 32 s t ∧
        t.width = w ∧ t.height = h ∧ t.flags = BitVec.ofNat 2 (inv.toNat + 2 * stripes.isSome.toNat) ∧ t.rps = 0) ∧
    (∀ (w h : BitVec 16) (inv : Bool) (rest : List Byte), w ≠ 0 → h ≠ 0 →
      ∃ t, exec (.mmrInit (headerBytes w h inv (some 0) ++ rest)) s = .next t ∧ InitFailed .badMMRHeader 64 s t ∧
        t.width = w ∧ t.height = h ∧ t.flags = BitVec.ofNat 2 (inv.toNat + 2) ∧ t.rps = 0)

/-- S ends inside the header or inside the first stripe's length: UnexpectedEndOfStream with bit 8 * |S| and SP at |S|
(60_exceptions.md R301 (a), R309; 42_mmr_commands.md R211; 20_memory.md R61, R62). The short read comes before the check on the
field: any S of fewer than 4 bytes, whatever they are, and a header of any W and H that ends before H is whole
(60_exceptions.md R312). Where not even the magic is whole, MMR_WIDTH, MMR_HEIGHT, MMR_FLAGS and MMR_RPS are 0
(70_reset_and_hazards.md R343; deduced, log 31). -/
def Obligations.MmrInitCutShort : Prop :=
  ∀ s : State, s.pos = .idle →
    (∀ bytes : List Byte, bytes.length < 4 →
      ∃ t, exec (.mmrInit bytes) s = .next t ∧
        InitFailed .unexpectedEndOfStream (BitVec.ofNat 35 (8 * bytes.length)) s t ∧ t.sp = BitVec.ofNat 32 bytes.length ∧
        t.width = 0 ∧ t.height = 0 ∧ t.flags = 0 ∧ t.rps = 0) ∧
    (∀ (w h : BitVec 16) (inv : Bool) (stripes : Option (BitVec 16)) (k : Nat), k < 8 →
      ∃ t, exec (.mmrInit ((headerBytes w h inv stripes).take k)) s = .next t ∧
        InitFailed .unexpectedEndOfStream (BitVec.ofNat 35 (8 * k)) s t ∧ t.sp = BitVec.ofNat 32 k) ∧
    (∀ (w h r : BitVec 16) (inv : Bool) (len : BitVec 32) (k : Nat), w ≠ 0 → h ≠ 0 → k < 10 ∨ r ≠ 0 ∧ k < 14 →
      ∃ t, exec (.mmrInit ((headerBytes w h inv (some r) ++ be32 len).take k)) s = .next t ∧
        InitFailed .unexpectedEndOfStream (BitVec.ofNat 35 (8 * k)) s t ∧ t.sp = BitVec.ofNat 32 k)

/-! ## Scan commands -/

/-- A scan by the state of the MMR unit: NoStartRecord in UNCONF, the sticky error in FAILED, each of which writes LAST_ERR and
nothing else; NoLine in DONE; in ACTIVE, away from a stripe boundary, the row starts (42_mmr_commands.md R215, R218;
40_mmr_modes.md R151; 60_exceptions.md R306, R311). MMR_SCANRLE clears OUT at its start (20_memory.md R74); that a refused one
leaves OUT, as R311 says, is the model's choice between the two rules (log 19). The row's codewords are further steps (log 2),
and the result port is empty while they run (log 15). -/
def Obligations.ScanByUnitState : Prop :=
  ∀ e ∈ scanCommands, ∀ s : State, s.pos = .idle →
    (s.mmrState = .unconf →
      exec e.1 s = .next { s with lastErr := .noStartRecord, result := some (.err .noStartRecord), pos := .idle }) ∧
    (s.mmrState = .failed → exec e.1 s = .next { s with lastErr := s.mmrErr, result := some (.err s.mmrErr), pos := .idle }) ∧
    (s.mmrState = .done →
      exec e.1 s = .next { s with out := if e.2 = .rle then [] else s.out, result := some .noLine, pos := .idle }) ∧
    (s.mmrState = .active → 0 < s.width.toNat → (s.flags.getLsbD 1 = true → s.striplineno ≠ s.rps) →
      exec e.1 s = .next { s with
        scan := e.2
        out := if e.2 = .rle then [] else s.out
        result := none
        a0 := 0
        rle := 0
        color := .white
        cur := []
        pr := 1
        b1 := s.ref.getD 0 0
        pos := .mode })

/-- The first scan of a further stripe: the rest of the finished stripe is discarded, the next length is read where the stripe's
declared end is, the reference line is white again, and the row starts (42_mmr_commands.md R216, 20_memory.md R69,
30_encoding.md R117); MMR_SCANRLE clears OUT at its start (20_memory.md R74). The row's codewords are further steps (log 2), and
the result port is empty while they run (log 15). -/
def Obligations.ScanEntersNextStripe : Prop :=
  ∀ e ∈ scanCommands, ∀ (s : State) (len : BitVec 32) (rest : List Byte), s.pos = .idle → s.mmrState = .active →
    0 < s.width.toNat → s.flags.getLsbD 1 = true → s.striplineno = s.rps → s.stream.length < 4294967296 →
    s.send.toNat ≤ s.stream.length → s.stream.drop s.send.toNat = be32 len ++ rest →
    exec e.1 s = .next { s with
      striplineno := 0
      sp := BitVec.ofNat 32 (s.send.toNat + 4)
      send := BitVec.ofNat 33 (s.send.toNat + 4 + len.toNat)
      sdata := rest.take len.toNat
      bitpos := 0
      stripeno := s.stripeno + 1
      ref := [s.width.toNat]
      scan := e.2
      out := if e.2 = .rle then [] else s.out
      result := none
      a0 := 0
      rle := 0
      color := .white
      cur := []
      pr := 1
      b1 := s.width.toNat
      pos := .mode }

/-- A stripe that cannot be entered: the finished stripe's declared end lies past the end of S (bit = BITPOS), or S ends inside the
next length (bit = 8 * |S|, SP at |S|) (60_exceptions.md R301 (b), 20_memory.md R69, 42_mmr_commands.md R216). -/
def Obligations.MissingStripeRaises : Prop :=
  ∀ e ∈ scanCommands, ∀ s : State, s.pos = .idle → s.mmrState = .active → s.flags.getLsbD 1 = true →
    s.striplineno = s.rps → s.stream.length < 4294967296 →
    (s.stream.length < s.send.toNat →
      ∃ t, exec e.1 s = .next t ∧ MmrFailed .unexpectedEndOfStream s.bitpos { s with striplineno := 0 } t) ∧
    (s.send.toNat ≤ s.stream.length → s.stream.length < s.send.toNat + 4 →
      ∃ t, exec e.1 s = .next t ∧
        MmrFailed .unexpectedEndOfStream (BitVec.ofNat 35 (8 * s.stream.length))
          { s with striplineno := 0, sp := BitVec.ofNat 32 s.stream.length } t)

/-- The all-white row: a scan whose reference line is white and whose next bit is 1 returns the single run W (two black-first
entries when inverted), and the row is the next reference line (42_mmr_commands.md R215, R217; 40_mmr_modes.md R156). Two steps of the model:
the scan's start and its one codeword (log 2, 15). -/
def Obligations.AllWhiteRowTakesOneBit : Prop :=
  ∀ (s : State) (rest : List HostEvent), s.pos = .idle → s.inbox = .command ⟨0x02, .none⟩ :: rest →
    s.mmrState = .active → 0 < s.width.toNat → s.ref = [s.width.toNat] →
    (s.flags.getLsbD 1 = true → s.striplineno ≠ s.rps) → streamBit s.sdata s.bitpos.toNat = 1 →
    ∃ t u, step s = .next t ∧ step t = .next u ∧ u.pos = .idle ∧ u.inbox = rest ∧
      u.result = some (.ok (.runs (if s.flags.getLsbD 0 then [0, s.width.toNat] else [s.width.toNat]))) ∧
      u.ref = [s.width.toNat] ∧ u.bitpos = s.after 1 ∧ u.lineno = s.lineno + 1 ∧
      u.mmrState = (if s.lineno + 1 = s.height then .done else .active)

/-! ## Mode instructions -/

/-- A Vertical mode that places a1 left of W: the run to a1 is emitted, A0 becomes b1 + k, the colour flips, the reference pointer
moves one transition and is resynchronised (40_mmr_modes.md R156-R163, R165). Nothing else changes. -/
def Obligations.VerticalWithinRow : Prop :=
  ∀ e ∈ verticalModes, ∀ s : State, s.pos = .mode → HasBits s e.2.2 → s.cur.length < s.width.toNat + 2 →
    0 ≤ verticalRun s e.2.1 → s.b1 + e.2.1 < s.width.toNat →
    exec e.1 s = .next (resync { s with
      cwstart := s.bitpos
      bitpos := s.after e.2.2
      cur := s.cur ++ [(verticalRun s e.2.1).toNat]
      a0 := s.b1 + e.2.1
      rle := 0
      color := s.color.other
      b1 := if 0 ≤ e.2.1 then s.b1 + s.refAt s.pr else s.b1 - s.refAt (s.pr - 1)
      pr := if 0 ≤ e.2.1 then s.pr + 1 else s.pr - 1
      pos := .mode })

/-- A Vertical mode that places a1 at W ends the row: the row with the emitted run is committed and returned
(40_mmr_modes.md R163, R166, R169; 42_mmr_commands.md R215, R217, R218). The row-local registers hold free values afterwards
(log 7). -/
def Obligations.VerticalEndsRow : Prop :=
  ∀ e ∈ verticalModes, ∀ s : State, s.pos = .mode → HasBits s e.2.2 → s.cur.length < s.width.toNat + 2 →
    0 ≤ verticalRun s e.2.1 → s.b1 + e.2.1 = s.width.toNat →
    exec e.1 s = .next (rowReturned { s with bitpos := s.after e.2.2 } (s.cur ++ [(verticalRun s e.2.1).toNat]))

/-- Pass mode: A0 becomes b2, the pending run grows by b2 - a0, no run is emitted and the colour stays; at W with a pending run the
trailing-run check follows (40_mmr_modes.md R153, R165, R166, R167; 90_conflicts.md C4). -/
def Obligations.PassExtendsRunToB2 : Prop :=
  ∀ s : State, s.pos = .mode → HasBits s 4 →
    (s.b1 + s.refAt s.pr < s.width.toNat →
      exec .p s = .next (resync { s with
        cwstart := s.bitpos
        bitpos := s.after 4
        b1 := s.b1 + s.refAt s.pr + s.refAt (s.pr + 1)
        pr := s.pr + 2
        rle := s.rle + (s.b1 + s.refAt s.pr - s.a0)
        a0 := s.b1 + s.refAt s.pr
        pos := .mode })) ∧
    (s.b1 + s.refAt s.pr = s.width.toNat → 0 < s.rle + (s.b1 + s.refAt s.pr - s.a0) →
      exec .p s = .next (resync { s with
        cwstart := s.bitpos
        bitpos := s.after 4
        b1 := s.b1 + s.refAt s.pr + s.refAt (s.pr + 1)
        pr := s.pr + 2
        rle := s.rle + (s.b1 + s.refAt s.pr - s.a0)
        a0 := s.b1 + s.refAt s.pr
        pos := .trailing }))

/-- The codewords that change only what is read next: H, after which the run of colour COLOR is read, and the uncompressed entry
(40_mmr_modes.md R154, 41_mmr_escapes.md R192, 30_encoding.md R115). -/
def Obligations.HorizontalAndUncompressedEntry : Prop :=
  ∀ s : State, s.pos = .mode →
    (HasBits s 3 → exec .h s = .next { s with cwstart := s.bitpos, bitpos := s.after 3, pos := .run1 }) ∧
    (HasBits s 10 → exec .unc s = .next { s with cwstart := s.bitpos, bitpos := s.after 10, pos := .unc })

/-- Resynchronisation: B1 stays the sum of the runs before PR and PR keeps its parity; afterwards B1 lies right of A0 or B1 is W, and
every transition of the same colour passed over lies at or left of A0 (40_mmr_modes.md R165). -/
def Obligations.ResyncFindsNextTransition : Prop :=
  ∀ s : State, s.b1 = refPrefix s s.pr → s.ref.sum = s.width.toNat →
    (resync s).b1 = refPrefix s (resync s).pr ∧ s.pr ≤ (resync s).pr ∧ (resync s).pr % 2 = s.pr % 2 ∧
    (s.a0 < (resync s).b1 ∨ (resync s).b1 = s.width.toNat) ∧
    (∀ j, s.pr ≤ j → j < (resync s).pr → j % 2 = s.pr % 2 → refPrefix s j ≤ s.a0)

/-! ## Run codewords -/

/-- A makeup code, white or black: its value joins the coding position and the pending run, and the run goes on
(40_mmr_modes.md R155, R171; 30_encoding.md R105-R109, R111). -/
def Obligations.MakeupCodeExtendsRun : Prop :=
  ∀ c : Colour, ∀ r ∈ runRom c, 64 ≤ r.value → ∀ s : State, s.runColour = some c → HasBits s r.len →
    s.a0 + r.value ≤ 131072 →
    exec r.instr s = .next { s with
      cwstart := s.bitpos
      bitpos := s.after r.len
      a0 := s.a0 + r.value
      rle := s.rle + r.value }

/-- A terminating code of the first run: the run is emitted with what was pending, and the run of the opposite colour is read next
(40_mmr_modes.md R154, R155, R164). -/
def Obligations.FirstRunEnds : Prop :=
  ∀ c : Colour, ∀ r ∈ runRom c, r.value < 64 → ∀ s : State, s.pos = .run1 → s.color = c → HasBits s r.len →
    s.a0 + r.value ≤ 131072 → 0 ≤ s.rle + r.value → s.cur.length < s.width.toNat + 2 →
    exec r.instr s = .next { s with
      cwstart := s.bitpos
      bitpos := s.after r.len
      a0 := s.a0 + r.value
      cur := s.cur ++ [(s.rle + r.value).toNat]
      rle := 0
      pos := .run2 }

/-- A terminating code of the second run that ends left of W: the run is emitted, the colour is as before the mode, and the reference
pointer is resynchronised (40_mmr_modes.md R154, R155, R164, R165). -/
def Obligations.SecondRunWithinRow : Prop :=
  ∀ c : Colour, ∀ r ∈ runRom c, r.value < 64 → ∀ s : State, s.pos = .run2 → s.color.other = c → HasBits s r.len →
    s.a0 + r.value < s.width.toNat → 0 ≤ s.rle + r.value → s.cur.length < s.width.toNat + 2 →
    exec r.instr s = .next (resync { s with
      cwstart := s.bitpos
      bitpos := s.after r.len
      a0 := s.a0 + r.value
      cur := s.cur ++ [(s.rle + r.value).toNat]
      rle := 0
      pos := .mode })

/-- A terminating code of the second run that ends at W: the row is committed and returned (40_mmr_modes.md R154, R155, R166, R169;
42_mmr_commands.md R215). The row-local registers hold free values afterwards (log 7). -/
def Obligations.SecondRunEndsRow : Prop :=
  ∀ c : Colour, ∀ r ∈ runRom c, r.value < 64 → ∀ s : State, s.pos = .run2 → s.color.other = c → HasBits s r.len →
    s.a0 + r.value = s.width.toNat → 0 ≤ s.rle + r.value → s.cur.length < s.width.toNat + 2 →
    exec r.instr s =
      .next (rowReturned { s with bitpos := s.after r.len } (s.cur ++ [(s.rle + r.value).toNat]))

/-! ## Escapes -/

/-- EOFB: the row counter becomes H, the unit is DONE, the scan returns NoLine, nothing is consumed, and REF and the stripe's row
counter stay (41_mmr_escapes.md R191). The partial row and the row-local registers are free values (log 7, 9). -/
def Obligations.EofbEndsImage : Prop :=
  ∀ s : State, s.pos = .mode →
    exec .eofb s = .next (State.freeRow (State.freeCur { s with
      lineno := s.height
      mmrState := .done
      result := some .noLine
      pos := .idle }))

/-- The literal codes, k white pixels and one black: a colour change emits the pending run, each bit is consumed in turn
(41_mmr_escapes.md R193, R194, R196). One literal code is one instruction (log 28). -/
def Obligations.LiteralPixels : Prop :=
  ∀ e ∈ literalCodes, ∀ s : State, s.pos = .unc → HasBits s (e.2 + 1) → s.a0 + (e.2 + 1 : Nat) ≤ s.width.toNat →
    0 ≤ s.rle → s.cur.length ≤ s.width.toNat →
    exec e.1 s = .next { s with
      cwstart := s.after e.2
      bitpos := s.after (e.2 + 1)
      a0 := s.a0 + (e.2 + 1 : Nat)
      color := .black
      rle := if s.color = .black ∧ e.2 = 0 then s.rle + 1 else 1
      cur := if s.color = .white then s.cur ++ [(s.rle + e.2).toNat]
        else if e.2 = 0 then s.cur
        else s.cur ++ [s.rle.toNat, e.2] }

/-- `000001`: five white pixels (41_mmr_escapes.md R195, R196). -/
def Obligations.FiveWhitePixels : Prop :=
  ∀ s : State, s.pos = .unc → HasBits s 6 → s.a0 + 5 ≤ s.width.toNat → 0 ≤ s.rle →
    s.cur.length < s.width.toNat + 2 →
    exec .u00000 s = .next { s with
      cwstart := s.bitpos
      bitpos := s.after 6
      a0 := s.a0 + 5
      color := .white
      rle := if s.color = .white then s.rle + 5 else 5
      cur := if s.color = .white then s.cur else s.cur ++ [s.rle.toNat] }

/-- The uncompressed exit inside a row: T becomes the colour, a pending run of the other colour is emitted, the reference pointer
starts again from the line's start and is resynchronised (41_mmr_escapes.md R198, R200). -/
def Obligations.UncompressedExitWithinRow : Prop :=
  ∀ (s : State) (t : Colour), s.pos = .unc → HasBits s 8 → s.a0 < s.width.toNat →
    (t ≠ s.color → 0 ≤ s.rle ∧ s.cur.length < s.width.toNat + 2) →
    exec (.ux t) s = .next (resync { s with
      cwstart := s.bitpos
      bitpos := s.after 8
      color := t
      cur := if t = s.color then s.cur else s.cur ++ [s.rle.toNat]
      rle := if t = s.color then s.rle else 0
      pr := if t = .white then 1 else 2
      b1 := if t = .white then s.refAt 0 else s.refAt 0 + s.refAt 1
      pos := .mode })

/-- The uncompressed exit at W: the pending run is emitted whatever T is, and the row is committed and returned
(41_mmr_escapes.md R200, R201; 40_mmr_modes.md R166, R169). The row-local registers hold free values afterwards (log 7). -/
def Obligations.UncompressedExitEndsRow : Prop :=
  ∀ (s : State) (t : Colour), s.pos = .unc → HasBits s 8 → s.a0 = s.width.toNat → 0 ≤ s.rle →
    s.cur.length < s.width.toNat + 2 →
    exec (.ux t) s = .next (rowReturned { s with bitpos := s.after 8 } (s.cur ++ [s.rle.toNat]))

/-! ## Row end and errors of the row -/

/-- The trailing-run check passes on V0, which closes the pending run: the row is committed and returned (40_mmr_modes.md R167).
The row-local registers hold free values afterwards (log 7). -/
def Obligations.TrailingRunClosedByV0 : Prop :=
  ∀ s : State, s.pos = .trailing → HasBits s 1 → s.a0 = s.width.toNat → 0 < s.rle →
    s.cur.length < s.width.toNat + 2 →
    exec .v0 s = .next (rowReturned { s with bitpos := s.after 1 } (s.cur ++ [s.rle.toNat]))

/-- The trailing-run check rejects every other mode, after consuming it (40_mmr_modes.md R167, 60_exceptions.md R302 (h)). -/
def Obligations.TrailingRunRejectsOtherModes : Prop :=
  ∀ e ∈ modesButV0, ∀ s : State, s.pos = .trailing → HasBits s e.2 →
    ∃ t, exec e.1 s = .next t ∧ MmrFailed .corruptMMRStream s.bitpos { s with bitpos := s.after e.2 } t

/-- A mode codeword, a run codeword or an uncompressed exit whose bits pass the end of the data raises UnexpectedEndOfStream at
BITPOS and consumes nothing (20_memory.md R65, 60_exceptions.md R301 (c)). -/
def Obligations.CutShortCodewordRaises : Prop :=
  ∀ (i : Instr) (book : Book) (code len : Nat) (s : State), encode i = .codeword book code len →
    s.sbits < s.bitpos.toNat + len →
    (book = .mode ∧ (s.pos = .mode ∨ s.pos = .trailing) ∨ (∃ c, book = runBook c ∧ s.runColour = some c) ∨
      s.pos = .unc ∧ ∃ t, i = .ux t) →
    ∃ t, exec i s = .next t ∧ MmrFailed .unexpectedEndOfStream s.bitpos s t

/-- Every emission of a negative run or of one run too many is rejected at its codeword (40_mmr_modes.md R164; 60_exceptions.md R302
(c), (d)): at a Vertical mode, at the terminating code of a run (R154), at the colour changes of the uncompressed pixel codes
(41_mmr_escapes.md R196; a literal code at the bit that changes the colour, its second change too), at the uncompressed exit
(R200) and at the V0 of the trailing-run check (R167). So is a coding position past A0_LIMIT in Horizontal mode (R171, R302
(e)). One literal code of uncompressed mode is one instruction (log 28). -/
def Obligations.BadRunRaises : Prop :=
  ∀ s : State,
    (∀ e ∈ verticalModes, s.pos = .mode → HasBits s e.2.2 → CannotEmit s (verticalRun s e.2.1) →
      ∃ t, exec e.1 s = .next t ∧ MmrFailed .corruptMMRStream s.bitpos { s with bitpos := s.after e.2.2 } t) ∧
    (∀ c : Colour, ∀ r ∈ runRom c, s.runColour = some c → HasBits s r.len →
      (131072 < s.a0 + r.value ∨ r.value < 64 ∧ CannotEmit s (s.rle + r.value)) →
      ∃ t, exec r.instr s = .next t ∧ MmrFailed .corruptMMRStream s.bitpos { s with bitpos := s.after r.len } t) ∧
    (∀ e ∈ literalCodes, s.pos = .unc →
      (s.color = .black → 1 ≤ e.2 → HasBits s 1 → CannotEmit s s.rle →
        ∃ t, exec e.1 s = .next t ∧ MmrFailed .corruptMMRStream s.bitpos { s with bitpos := s.after 1 } t) ∧
      (HasBits s (e.2 + 1) → s.a0 + e.2 ≤ s.width.toNat →
        (s.color = .white ∧ CannotEmit s (s.rle + e.2) ∨
          s.color = .black ∧ 1 ≤ e.2 ∧ 0 ≤ s.rle ∧ s.cur.length = s.width.toNat + 1) →
        ∃ t, exec e.1 s = .next t ∧
          MmrFailed .corruptMMRStream (s.after e.2) { s with bitpos := s.after (e.2 + 1) } t)) ∧
    (s.pos = .unc → s.color = .black → HasBits s 6 → CannotEmit s s.rle →
      ∃ t, exec .u00000 s = .next t ∧ MmrFailed .corruptMMRStream s.bitpos { s with bitpos := s.after 6 } t) ∧
    (∀ c : Colour, s.pos = .unc → HasBits s 8 → (s.width.toNat ≤ s.a0 ∨ c ≠ s.color) → CannotEmit s s.rle →
      ∃ t, exec (.ux c) s = .next t ∧ MmrFailed .corruptMMRStream s.bitpos { s with bitpos := s.after 8 } t) ∧
    (s.pos = .trailing → HasBits s 1 → CannotEmit s s.rle →
      ∃ t, exec .v0 s = .next t ∧ MmrFailed .corruptMMRStream s.bitpos { s with bitpos := s.after 1 } t)

/-- Overshoot with OVR_CLAMP = 0: a row whose coding position passes W is rejected at the codeword that took it there
(40_mmr_modes.md R168, 60_exceptions.md R302 (i)). -/
def Obligations.OvershootRaises : Prop :=
  ∀ s : State, s.ovrClamp = false → s.cur.length < s.width.toNat + 2 →
    (∀ e ∈ verticalModes, s.pos = .mode → HasBits s e.2.2 → 0 ≤ verticalRun s e.2.1 →
      s.width.toNat < s.b1 + e.2.1 →
      ∃ t, exec e.1 s = .next t ∧ MmrFailed .corruptMMRStream s.bitpos { s with bitpos := s.after e.2.2 } t) ∧
    (∀ c : Colour, ∀ r ∈ runRom c, r.value < 64 → s.pos = .run2 → s.color.other = c → HasBits s r.len →
      0 ≤ s.rle + r.value → s.width.toNat < s.a0 + r.value →
      ∃ t, exec r.instr s = .next t ∧ MmrFailed .corruptMMRStream s.bitpos { s with bitpos := s.after r.len } t)

/-- Overshoot with OVR_CLAMP = 1: where a Vertical mode or the second run of Horizontal mode takes the coding position past W, the
returned row is the first W pixels of the coded row exactly, and its runs sum to W (40_mmr_modes.md R157-R159, R163, R168). The
row-local registers hold free values afterwards (log 7). -/
def Obligations.OvershootClampKeepsFirstPixels : Prop :=
  ∀ s : State, s.ovrClamp = true → s.cur.length < s.width.toNat + 2 → (s.cur.sum : Int) + s.rle = s.a0 →
    (∀ e ∈ verticalModes, s.pos = .mode → HasBits s e.2.2 → 0 ≤ verticalRun s e.2.1 →
      s.width.toNat < s.b1 + e.2.1 →
      ∃ row : List Nat, exec e.1 s = .next (rowReturned { s with bitpos := s.after e.2.2 } row) ∧
        row.sum = s.width.toNat ∧
        rowPixels row = (rowPixels (s.cur ++ [(verticalRun s e.2.1).toNat])).take s.width.toNat) ∧
    (∀ c : Colour, ∀ r ∈ runRom c, r.value < 64 → s.pos = .run2 → s.color.other = c → HasBits s r.len →
      0 ≤ s.rle + r.value → s.width.toNat < s.a0 + r.value → s.a0 + r.value ≤ 131072 →
      ∃ row : List Nat, exec r.instr s = .next (rowReturned { s with bitpos := s.after r.len } row) ∧
        row.sum = s.width.toNat ∧
        rowPixels row = (rowPixels (s.cur ++ [(s.rle + r.value).toNat])).take s.width.toNat)

/-- Uncompressed mode never passes W: a literal code raises at the bit that does, `000001` after its five pixels
(41_mmr_escapes.md R193, R195, R196; 60_exceptions.md R302 (f)). -/
def Obligations.UncompressedOvershootRaises : Prop :=
  ∀ (s : State) (left : Nat), s.pos = .unc → s.a0 + left = s.width.toNat → 0 ≤ s.rle → s.cur.length ≤ s.width.toNat →
    (∀ e ∈ literalCodes, left < e.2 + 1 → HasBits s (left + 1) →
      ∃ t, exec e.1 s = .next t ∧
        MmrFailed .corruptMMRStream (s.after left) { s with bitpos := s.after (left + 1) } t) ∧
    (left < 5 → HasBits s 6 →
      ∃ t, exec .u00000 s = .next t ∧ MmrFailed .corruptMMRStream s.bitpos { s with bitpos := s.after 6 } t)

/-! ## Outputs of a row -/

/-- Inversion makes every white pixel black and every black pixel white and keeps the sum (42_mmr_commands.md R217). -/
def Obligations.InvertFlipsEveryPixel : Prop :=
  ∀ l : List Nat, rowPixels (invertRuns l) = (rowPixels l).map Colour.other ∧ (invertRuns l).sum = l.sum

/-- The RLE bytes of a row of W pixels read back, by the unit meaning of 30_encoding.md R119, to the row's pixels, and keep the size
bound of 20_memory.md R60 (30_encoding.md R118; 42_mmr_commands.md R219, R220). -/
def Obligations.RleBytesReadBack : Prop :=
  ∀ (w : Nat) (l : List Nat), l.sum = w →
    rowPixels (readUnits (encodeRow w l)) = rowPixels l ∧
    (encodeRow w l).length ≤ 2 * l.length + 3 * (w / 16383)

/-! ## Invariants of every step -/

/-- Every step keeps the row invariants of 40_mmr_modes.md R170 ((b) as B1 ≥ A0, log 23), the run-buffer bounds of 10_state.md R26 and
the width bound of 41_mmr_escapes.md R196. -/
def Obligations.StepKeepsRowInvariants : Prop :=
  ∀ s t : State, RowOk s → step s = .next t → RowOk t

/-- Every step keeps the cursors in range: BITPOS within the stripe data, SP within S, S within 2^32 - 1 bytes (10_state.md R25,
20_memory.md R60, R61, R65). -/
def Obligations.StepKeepsCursorsInRange : Prop :=
  ∀ s t : State, CursorOk s → step s = .next t → CursorOk t

/-- Every step keeps the error registers consistent and the never-raised codes out of them, TB at TW x TH pixels, and no model bitmap
held but by a command that waits for ZP (60_exceptions.md R304, R305, R309-R311; 10_state.md R33, R34, R36; log 11). -/
def Obligations.StepKeepsErrorsAndBitmaps : Prop :=
  ∀ s t : State, ErrorsOk s → BitmapsOk s → step s = .next t → ErrorsOk t ∧ BitmapsOk t

/-- The run-sum rule: the runs of every returned row sum to W (42_mmr_commands.md R222 (a), 40_mmr_modes.md R169). -/
def Obligations.ReturnedRowsSumToWidth : Prop :=
  ∀ s t : State, RowOk s → ReturnedRowOk s → step s = .next t → ReturnedRowOk t

/-- The state after reset meets every invariant. -/
def Obligations.ResetMeetsInvariants : Prop :=
  RowOk State.reset ∧ CursorOk State.reset ∧ ErrorsOk State.reset ∧ BitmapsOk State.reset ∧ ReturnedRowOk State.reset

/-! ## JB2 -/

/-- The rolled contexts are the full ones (44_jb2_direct.md R243, 45_jb2_cross.md R268). -/
def Obligations.RolledContextIsFullContext : Prop :=
  ∀ (tb mb : Bitmap) (x y mx my : Int),
    rollDirect tb (directCtx tb (x - 1) y) x y (pix tb (x - 1) y) = directCtx tb x y ∧
    rollCross tb mb (crossCtx tb mb (x - 1) y (mx - 1) my) x y mx my (pix tb (x - 1) y) = crossCtx tb mb x y mx my

/-- The bitmap loop with rolled contexts makes the same requests and writes the same pixels as the loop that computes every context
afresh, for every oracle and up to the first EndOfStream or the first request that is never answered (44_jb2_direct.md R241,
R243, R244; 45_jb2_cross.md R268, R270). -/
def Obligations.RolledLoopIsFreshLoop : Prop :=
  ∀ (zp : Zp) (bank : Bank) (dw dh : Word) (s : State),
    withoutCtx (decodeBitmap zp bank dw dh s) = withoutCtx (freshBitmap zp bank dw dh s)

/-- Where the oracle answers each request with a bit, exactly dw * dh are issued, and TB is left dw by dh
(44_jb2_direct.md R245, 45_jb2_cross.md R271). -/
def Obligations.OneRequestPerPixel : Prop :=
  ∀ (answer : Nat → Bank → BitVec 11 → Nat → Bool) (cell : Nat → Bank → BitVec 11 → Nat → Nat) (bank : Bank)
    (dw dh : Word) (s : State),
    ∃ t, decodeBitmap (countingZp answer cell) bank dw dh s = .ok t ∧ t.zp = s.zp + dw.toNat * dh.toNat ∧
      t.tb.w = dw ∧ t.tb.h = dh ∧ t.tb.wf = true

/-- The JB2 commands within the size limits run their bitmap loop to the end and complete: Ok with the bitmap that the loop leaves
(44_jb2_direct.md R244; 45_jb2_cross.md R266, R270). Where the loop stops at a request, the command returns
UnexpectedEndOfStream with the pixel whose request failed (44_jb2_direct.md R246; 60_exceptions.md R310), or, if ZP never
answers it, waits with what it holds and has not returned (70_reset_and_hazards.md R349; log 11). A bitmap of width or height
0 issues no request and always completes (44_jb2_direct.md R244). The working registers are free values after the command's return, and TB's
pixels after the error (log 8, 9). -/
def Obligations.Jb2CommandsComplete : Prop :=
  ∀ (s : State) (dw dh : Word) (mb : Bitmap) (box : Box), s.pos = .idle → s.jb2Failed = false →
    dw.toNat ≤ Config.jb2MaxW.toNat → dh.toNat ≤ Config.jb2MaxH.toNat →
    exec (.jb2Direct dw dh) s = .next (bitmapReturned (freshBitmap Config.zp .d dw dh s)) ∧
    exec (.jb2Cross dw dh mb box) s = .next (bitmapReturned (freshBitmap Config.zp .x dw dh { s with
      model := some ⟨mb, box⟩
      xd2c := ((dw.toNat / 2 : Nat) - dw.toNat + 1) -
        ((box.right.toInt - box.left.toInt + 1).tdiv 2 - box.right.toInt)
      yd2c := ((dh.toNat / 2 : Nat) - dh.toNat + 1) -
        ((box.top.toInt - box.bottom.toInt + 1).tdiv 2 - box.top.toInt) })) ∧
    (dw = 0 ∨ dh = 0 → ∀ i ∈ [Instr.jb2Direct dw dh, Instr.jb2Cross dw dh mb box],
      ∃ t, exec i s = .next t ∧ t.result = some (.ok .unit) ∧ t.pos = .idle ∧ t.tb = blankBitmap dw dh ∧ t.zp = s.zp)

/-- The JB2 commands that do not run: while JB2_FAILED = 1 they return the stored code and do nothing else; a size above JB2_MAXW or
JB2_MAXH raises CorruptJB2Stream with X = Y = -1 before any request (10_state.md R36; 44_jb2_direct.md R246; 45_jb2_cross.md
R269; 60_exceptions.md R303, R310, R311). -/
def Obligations.Jb2CommandsRefuse : Prop :=
  ∀ (s : State) (dw dh : Word) (mb : Bitmap) (box : Box), s.pos = .idle →
    ∀ i ∈ [Instr.jb2Direct dw dh, Instr.jb2Cross dw dh mb box],
      (s.jb2Failed = true →
        exec i s = .next { s with lastErr := s.jb2Err, result := some (.err s.jb2Err), pos := .idle }) ∧
      (s.jb2Failed = false → (Config.jb2MaxW.toNat < dw.toNat ∨ Config.jb2MaxH.toNat < dh.toNat) →
        exec i s = .next (State.freeJb2 (State.freeTb { s with
          jb2Failed := true
          jb2Err := .corruptJB2Stream
          jb2Errx := 0xffffffff
          jb2Erry := 0xffffffff
          lastErr := .corruptJB2Stream
          result := some (.err .corruptJB2Stream)
          pos := .idle })))

/-- A direct-coded bitmap never changes a cross cell, and a cross-coded one never a direct cell (45_jb2_cross.md R272). -/
def Obligations.ContextBanksStaySeparate : Prop :=
  ∀ (s t : State) (dw dh : Word) (mb : Bitmap) (box : Box),
    (exec (.jb2Direct dw dh) s = .next t → t.ctxx = s.ctxx) ∧
    (exec (.jb2Cross dw dh mb box) s = .next t → t.ctxd = s.ctxd)

/-! ## Control commands and whole-machine rules -/

/-- CTX_INIT restores every cell and clears the JB2 failure, and nothing else (46_control.md R290). -/
def Obligations.CtxInitRestoresCells : Prop :=
  ∀ s : State, s.pos = .idle →
    ∃ t, exec .ctxInit s = .next t ∧ (∀ i : Fin 1024, t.ctxd.get i = Config.cellInit) ∧
      (∀ i : Fin 2048, t.ctxx.get i = Config.cellInit) ∧
      t = { s with
        ctxd := t.ctxd
        ctxx := t.ctxx
        jb2Failed := false
        jb2Err := .noError
        result := some (.ok .unit)
        pos := .idle }

/-- WRITE_CTRL writes OVR_CLAMP from bit 0 of its operand and nothing else, and CTRL then reads that bit alone
(46_control.md R291, 10_state.md R21). -/
def Obligations.WriteCtrlWritesBitZero : Prop :=
  ∀ (s : State) (v : Word), s.pos = .idle →
    exec (.writeCtrl v) s =
      .next { s with ovrClamp := v.getLsbD 0, result := some (.ok .unit), pos := .idle } ∧
    State.ctrlReg { s with ovrClamp := v.getLsbD 0 } = v &&& 1

/-- READ_REG returns the sixteen registers zero-extended to 64 bits, IllegalCommand above 0x0F, and writes nothing else
(46_control.md R292, 10_state.md R22, R38). -/
def Obligations.ReadRegReturnsRegisters : Prop :=
  ∀ (s : State) (n : BitVec 8), s.pos = .idle →
    (0x0f < n.toNat →
      exec (.readReg n) s = .next { s with lastErr := .illegalCommand, result := some (.err .illegalCommand), pos := .idle }) ∧
    (n.toNat ≤ 0x0f → ∃ v : BitVec 64,
      exec (.readReg n) s = .next { s with result := some (.ok (.value v)), pos := .idle } ∧
      v.toNat = [s.ovrClamp.toNat,
        s.mmrState.code.toNat + 4 * s.jb2Failed.toNat + 16 * s.mmrErr.code.toNat + 256 * s.jb2Err.code.toNat +
          4096 * s.lastErr.code.toNat,
        s.width.toNat, s.height.toNat, s.flags.toNat, s.rps.toNat, s.lineno.toNat, s.striplineno.toNat,
        s.stripeno.toNat, s.bitpos.toNat, s.errrow.toNat, s.errbit.toNat, s.tb.w.toNat, s.tb.h.toNat,
        s.jb2Errx.toNat, s.jb2Erry.toNat].getD n.toNat 0)

/-- Opcodes 0x00 and 0x09-0xFF return IllegalCommand whatever their operands and change no state but LAST_ERR; every opcode is a
command of the table or one of these, so there is no hint opcode (46_control.md R293). -/
def Obligations.ReservedOpcodesAreIllegal : Prop :=
  (∀ (s : State) (op : BitVec 8) (ops : Operands), s.pos = .idle → (op.toNat = 0 ∨ 9 ≤ op.toNat) →
    decode (.command ⟨op, ops⟩) = .ok (.reserved op) ∧
    exec (.reserved op) s =
      .next { s with lastErr := .illegalCommand, result := some (.err .illegalCommand), pos := .idle }) ∧
  ∀ op : BitVec 8, (op.toNat = 0 ∨ 9 ≤ op.toNat) ∨
    ∃ ops i, decode (.command ⟨op, ops⟩) = .ok i ∧ ∀ op', i ≠ .reserved op'

/-- The MMR unit's and the JB2 units' state are disjoint: no instruction outside the JB2 family writes JB2 state or the ZP agent's,
and no command outside the MMR family writes MMR state (46_control.md R294, 60_exceptions.md R315). -/
def Obligations.UnitsAreDisjoint : Prop :=
  ∀ (i : Instr) (s t : State), exec i s = .next t →
    (jb2Instr i = false → SameJb2 s t) ∧ (mmrInstr i = false → SameMmr s t)

/-- LAST_ERR is written only by an Err result, with its code (60_exceptions.md R311). -/
def Obligations.LastErrWrittenOnlyByErr : Prop :=
  ∀ (i : Instr) (s t : State), exec i s = .next t →
    t.lastErr = s.lastErr ∨ t.result = some (.err t.lastErr)

/-- CTRL is the only register the host writes, and only WRITE_CTRL writes it; only MMR_INIT changes S (10_state.md R38, 20_memory.md
R60, R81). No instruction changes what the host has issued: it accepts no further command before it returns (46_control.md
R294); the queue `inbox` that holds the issued events is the model's own (DESIGN CHOICE, log 15). -/
def Obligations.CtrlAndStreamWriters : Prop :=
  ∀ (i : Instr) (s t : State), exec i s = .next t →
    (t.ovrClamp = s.ovrClamp ∨ ∃ v, i = .writeCtrl v) ∧ t.inbox = s.inbox ∧
    (t.stream = s.stream ∨ ∃ bytes, i = .mmrInit bytes ∧ t.stream = bytes)
end

