-- ==== Sys2Proof/Laws/State.lean ====
section
/-! SUPPORT. One lemma per field per update of the state, true by rfl, so that no later proof unfolds a record update.
-/
namespace Sys2Proof.Machine

variable (s : State)

@[simp] theorem State.mark_ovrClamp : s.mark.ovrClamp = s.ovrClamp := rfl
@[simp] theorem State.mark_mmrState : s.mark.mmrState = s.mmrState := rfl
@[simp] theorem State.mark_jb2Failed : s.mark.jb2Failed = s.jb2Failed := rfl
@[simp] theorem State.mark_mmrErr : s.mark.mmrErr = s.mmrErr := rfl
@[simp] theorem State.mark_jb2Err : s.mark.jb2Err = s.jb2Err := rfl
@[simp] theorem State.mark_lastErr : s.mark.lastErr = s.lastErr := rfl
@[simp] theorem State.mark_width : s.mark.width = s.width := rfl
@[simp] theorem State.mark_height : s.mark.height = s.height := rfl
@[simp] theorem State.mark_flags : s.mark.flags = s.flags := rfl
@[simp] theorem State.mark_rps : s.mark.rps = s.rps := rfl
@[simp] theorem State.mark_lineno : s.mark.lineno = s.lineno := rfl
@[simp] theorem State.mark_striplineno : s.mark.striplineno = s.striplineno := rfl
@[simp] theorem State.mark_stripeno : s.mark.stripeno = s.stripeno := rfl
@[simp] theorem State.mark_bitpos : s.mark.bitpos = s.bitpos := rfl
@[simp] theorem State.mark_errrow : s.mark.errrow = s.errrow := rfl
@[simp] theorem State.mark_errbit : s.mark.errbit = s.errbit := rfl
@[simp] theorem State.mark_jb2Errx : s.mark.jb2Errx = s.jb2Errx := rfl
@[simp] theorem State.mark_jb2Erry : s.mark.jb2Erry = s.jb2Erry := rfl
@[simp] theorem State.mark_stream : s.mark.stream = s.stream := rfl
@[simp] theorem State.mark_sp : s.mark.sp = s.sp := rfl
@[simp] theorem State.mark_send : s.mark.send = s.send := rfl
@[simp] theorem State.mark_sdata : s.mark.sdata = s.sdata := rfl
@[simp] theorem State.mark_ref : s.mark.ref = s.ref := rfl
@[simp] theorem State.mark_cur : s.mark.cur = s.cur := rfl
@[simp] theorem State.mark_a0 : s.mark.a0 = s.a0 := rfl
@[simp] theorem State.mark_b1 : s.mark.b1 = s.b1 := rfl
@[simp] theorem State.mark_pr : s.mark.pr = s.pr := rfl
@[simp] theorem State.mark_rle : s.mark.rle = s.rle := rfl
@[simp] theorem State.mark_color : s.mark.color = s.color := rfl
@[simp] theorem State.mark_cwstart : s.mark.cwstart = s.bitpos := rfl
@[simp] theorem State.mark_out : s.mark.out = s.out := rfl
@[simp] theorem State.mark_ctxd : s.mark.ctxd = s.ctxd := rfl
@[simp] theorem State.mark_ctxx : s.mark.ctxx = s.ctxx := rfl
@[simp] theorem State.mark_tb : s.mark.tb = s.tb := rfl
@[simp] theorem State.mark_model : s.mark.model = s.model := rfl
@[simp] theorem State.mark_x : s.mark.x = s.x := rfl
@[simp] theorem State.mark_y : s.mark.y = s.y := rfl
@[simp] theorem State.mark_ctx : s.mark.ctx = s.ctx := rfl
@[simp] theorem State.mark_xd2c : s.mark.xd2c = s.xd2c := rfl
@[simp] theorem State.mark_yd2c : s.mark.yd2c = s.yd2c := rfl
@[simp] theorem State.mark_zp : s.mark.zp = s.zp := rfl
@[simp] theorem State.mark_pos : s.mark.pos = s.pos := rfl
@[simp] theorem State.mark_scan : s.mark.scan = s.scan := rfl
@[simp] theorem State.mark_result : s.mark.result = s.result := rfl
@[simp] theorem State.mark_inbox : s.mark.inbox = s.inbox := rfl
@[simp] theorem State.mark_freeCount : s.mark.freeCount = s.freeCount := rfl

@[simp] theorem State.flipColor_ovrClamp : s.flipColor.ovrClamp = s.ovrClamp := rfl
@[simp] theorem State.flipColor_mmrState : s.flipColor.mmrState = s.mmrState := rfl
@[simp] theorem State.flipColor_jb2Failed : s.flipColor.jb2Failed = s.jb2Failed := rfl
@[simp] theorem State.flipColor_mmrErr : s.flipColor.mmrErr = s.mmrErr := rfl
@[simp] theorem State.flipColor_jb2Err : s.flipColor.jb2Err = s.jb2Err := rfl
@[simp] theorem State.flipColor_lastErr : s.flipColor.lastErr = s.lastErr := rfl
@[simp] theorem State.flipColor_width : s.flipColor.width = s.width := rfl
@[simp] theorem State.flipColor_height : s.flipColor.height = s.height := rfl
@[simp] theorem State.flipColor_flags : s.flipColor.flags = s.flags := rfl
@[simp] theorem State.flipColor_rps : s.flipColor.rps = s.rps := rfl
@[simp] theorem State.flipColor_lineno : s.flipColor.lineno = s.lineno := rfl
@[simp] theorem State.flipColor_striplineno : s.flipColor.striplineno = s.striplineno := rfl
@[simp] theorem State.flipColor_stripeno : s.flipColor.stripeno = s.stripeno := rfl
@[simp] theorem State.flipColor_bitpos : s.flipColor.bitpos = s.bitpos := rfl
@[simp] theorem State.flipColor_errrow : s.flipColor.errrow = s.errrow := rfl
@[simp] theorem State.flipColor_errbit : s.flipColor.errbit = s.errbit := rfl
@[simp] theorem State.flipColor_jb2Errx : s.flipColor.jb2Errx = s.jb2Errx := rfl
@[simp] theorem State.flipColor_jb2Erry : s.flipColor.jb2Erry = s.jb2Erry := rfl
@[simp] theorem State.flipColor_stream : s.flipColor.stream = s.stream := rfl
@[simp] theorem State.flipColor_sp : s.flipColor.sp = s.sp := rfl
@[simp] theorem State.flipColor_send : s.flipColor.send = s.send := rfl
@[simp] theorem State.flipColor_sdata : s.flipColor.sdata = s.sdata := rfl
@[simp] theorem State.flipColor_ref : s.flipColor.ref = s.ref := rfl
@[simp] theorem State.flipColor_cur : s.flipColor.cur = s.cur := rfl
@[simp] theorem State.flipColor_a0 : s.flipColor.a0 = s.a0 := rfl
@[simp] theorem State.flipColor_b1 : s.flipColor.b1 = s.b1 := rfl
@[simp] theorem State.flipColor_pr : s.flipColor.pr = s.pr := rfl
@[simp] theorem State.flipColor_rle : s.flipColor.rle = s.rle := rfl
@[simp] theorem State.flipColor_color : s.flipColor.color = s.color.other := rfl
@[simp] theorem State.flipColor_cwstart : s.flipColor.cwstart = s.cwstart := rfl
@[simp] theorem State.flipColor_out : s.flipColor.out = s.out := rfl
@[simp] theorem State.flipColor_ctxd : s.flipColor.ctxd = s.ctxd := rfl
@[simp] theorem State.flipColor_ctxx : s.flipColor.ctxx = s.ctxx := rfl
@[simp] theorem State.flipColor_tb : s.flipColor.tb = s.tb := rfl
@[simp] theorem State.flipColor_model : s.flipColor.model = s.model := rfl
@[simp] theorem State.flipColor_x : s.flipColor.x = s.x := rfl
@[simp] theorem State.flipColor_y : s.flipColor.y = s.y := rfl
@[simp] theorem State.flipColor_ctx : s.flipColor.ctx = s.ctx := rfl
@[simp] theorem State.flipColor_xd2c : s.flipColor.xd2c = s.xd2c := rfl
@[simp] theorem State.flipColor_yd2c : s.flipColor.yd2c = s.yd2c := rfl
@[simp] theorem State.flipColor_zp : s.flipColor.zp = s.zp := rfl
@[simp] theorem State.flipColor_pos : s.flipColor.pos = s.pos := rfl
@[simp] theorem State.flipColor_scan : s.flipColor.scan = s.scan := rfl
@[simp] theorem State.flipColor_result : s.flipColor.result = s.result := rfl
@[simp] theorem State.flipColor_inbox : s.flipColor.inbox = s.inbox := rfl
@[simp] theorem State.flipColor_freeCount : s.flipColor.freeCount = s.freeCount := rfl

@[simp] theorem State.setColor_ovrClamp (c : Colour) : (s.setColor c).ovrClamp = s.ovrClamp := rfl
@[simp] theorem State.setColor_mmrState (c : Colour) : (s.setColor c).mmrState = s.mmrState := rfl
@[simp] theorem State.setColor_jb2Failed (c : Colour) : (s.setColor c).jb2Failed = s.jb2Failed := rfl
@[simp] theorem State.setColor_mmrErr (c : Colour) : (s.setColor c).mmrErr = s.mmrErr := rfl
@[simp] theorem State.setColor_jb2Err (c : Colour) : (s.setColor c).jb2Err = s.jb2Err := rfl
@[simp] theorem State.setColor_lastErr (c : Colour) : (s.setColor c).lastErr = s.lastErr := rfl
@[simp] theorem State.setColor_width (c : Colour) : (s.setColor c).width = s.width := rfl
@[simp] theorem State.setColor_height (c : Colour) : (s.setColor c).height = s.height := rfl
@[simp] theorem State.setColor_flags (c : Colour) : (s.setColor c).flags = s.flags := rfl
@[simp] theorem State.setColor_rps (c : Colour) : (s.setColor c).rps = s.rps := rfl
@[simp] theorem State.setColor_lineno (c : Colour) : (s.setColor c).lineno = s.lineno := rfl
@[simp] theorem State.setColor_striplineno (c : Colour) : (s.setColor c).striplineno = s.striplineno := rfl
@[simp] theorem State.setColor_stripeno (c : Colour) : (s.setColor c).stripeno = s.stripeno := rfl
@[simp] theorem State.setColor_bitpos (c : Colour) : (s.setColor c).bitpos = s.bitpos := rfl
@[simp] theorem State.setColor_errrow (c : Colour) : (s.setColor c).errrow = s.errrow := rfl
@[simp] theorem State.setColor_errbit (c : Colour) : (s.setColor c).errbit = s.errbit := rfl
@[simp] theorem State.setColor_jb2Errx (c : Colour) : (s.setColor c).jb2Errx = s.jb2Errx := rfl
@[simp] theorem State.setColor_jb2Erry (c : Colour) : (s.setColor c).jb2Erry = s.jb2Erry := rfl
@[simp] theorem State.setColor_stream (c : Colour) : (s.setColor c).stream = s.stream := rfl
@[simp] theorem State.setColor_sp (c : Colour) : (s.setColor c).sp = s.sp := rfl
@[simp] theorem State.setColor_send (c : Colour) : (s.setColor c).send = s.send := rfl
@[simp] theorem State.setColor_sdata (c : Colour) : (s.setColor c).sdata = s.sdata := rfl
@[simp] theorem State.setColor_ref (c : Colour) : (s.setColor c).ref = s.ref := rfl
@[simp] theorem State.setColor_cur (c : Colour) : (s.setColor c).cur = s.cur := rfl
@[simp] theorem State.setColor_a0 (c : Colour) : (s.setColor c).a0 = s.a0 := rfl
@[simp] theorem State.setColor_b1 (c : Colour) : (s.setColor c).b1 = s.b1 := rfl
@[simp] theorem State.setColor_pr (c : Colour) : (s.setColor c).pr = s.pr := rfl
@[simp] theorem State.setColor_rle (c : Colour) : (s.setColor c).rle = s.rle := rfl
@[simp] theorem State.setColor_color (c : Colour) : (s.setColor c).color = c := rfl
@[simp] theorem State.setColor_cwstart (c : Colour) : (s.setColor c).cwstart = s.cwstart := rfl
@[simp] theorem State.setColor_out (c : Colour) : (s.setColor c).out = s.out := rfl
@[simp] theorem State.setColor_ctxd (c : Colour) : (s.setColor c).ctxd = s.ctxd := rfl
@[simp] theorem State.setColor_ctxx (c : Colour) : (s.setColor c).ctxx = s.ctxx := rfl
@[simp] theorem State.setColor_tb (c : Colour) : (s.setColor c).tb = s.tb := rfl
@[simp] theorem State.setColor_model (c : Colour) : (s.setColor c).model = s.model := rfl
@[simp] theorem State.setColor_x (c : Colour) : (s.setColor c).x = s.x := rfl
@[simp] theorem State.setColor_y (c : Colour) : (s.setColor c).y = s.y := rfl
@[simp] theorem State.setColor_ctx (c : Colour) : (s.setColor c).ctx = s.ctx := rfl
@[simp] theorem State.setColor_xd2c (c : Colour) : (s.setColor c).xd2c = s.xd2c := rfl
@[simp] theorem State.setColor_yd2c (c : Colour) : (s.setColor c).yd2c = s.yd2c := rfl
@[simp] theorem State.setColor_zp (c : Colour) : (s.setColor c).zp = s.zp := rfl
@[simp] theorem State.setColor_pos (c : Colour) : (s.setColor c).pos = s.pos := rfl
@[simp] theorem State.setColor_scan (c : Colour) : (s.setColor c).scan = s.scan := rfl
@[simp] theorem State.setColor_result (c : Colour) : (s.setColor c).result = s.result := rfl
@[simp] theorem State.setColor_inbox (c : Colour) : (s.setColor c).inbox = s.inbox := rfl
@[simp] theorem State.setColor_freeCount (c : Colour) : (s.setColor c).freeCount = s.freeCount := rfl

@[simp] theorem State.freeRow_ovrClamp : s.freeRow.ovrClamp = s.ovrClamp := rfl
@[simp] theorem State.freeRow_mmrState : s.freeRow.mmrState = s.mmrState := rfl
@[simp] theorem State.freeRow_jb2Failed : s.freeRow.jb2Failed = s.jb2Failed := rfl
@[simp] theorem State.freeRow_mmrErr : s.freeRow.mmrErr = s.mmrErr := rfl
@[simp] theorem State.freeRow_jb2Err : s.freeRow.jb2Err = s.jb2Err := rfl
@[simp] theorem State.freeRow_lastErr : s.freeRow.lastErr = s.lastErr := rfl
@[simp] theorem State.freeRow_width : s.freeRow.width = s.width := rfl
@[simp] theorem State.freeRow_height : s.freeRow.height = s.height := rfl
@[simp] theorem State.freeRow_flags : s.freeRow.flags = s.flags := rfl
@[simp] theorem State.freeRow_rps : s.freeRow.rps = s.rps := rfl
@[simp] theorem State.freeRow_lineno : s.freeRow.lineno = s.lineno := rfl
@[simp] theorem State.freeRow_striplineno : s.freeRow.striplineno = s.striplineno := rfl
@[simp] theorem State.freeRow_stripeno : s.freeRow.stripeno = s.stripeno := rfl
@[simp] theorem State.freeRow_bitpos : s.freeRow.bitpos = s.bitpos := rfl
@[simp] theorem State.freeRow_errrow : s.freeRow.errrow = s.errrow := rfl
@[simp] theorem State.freeRow_errbit : s.freeRow.errbit = s.errbit := rfl
@[simp] theorem State.freeRow_jb2Errx : s.freeRow.jb2Errx = s.jb2Errx := rfl
@[simp] theorem State.freeRow_jb2Erry : s.freeRow.jb2Erry = s.jb2Erry := rfl
@[simp] theorem State.freeRow_stream : s.freeRow.stream = s.stream := rfl
@[simp] theorem State.freeRow_sp : s.freeRow.sp = s.sp := rfl
@[simp] theorem State.freeRow_send : s.freeRow.send = s.send := rfl
@[simp] theorem State.freeRow_sdata : s.freeRow.sdata = s.sdata := rfl
@[simp] theorem State.freeRow_ref : s.freeRow.ref = s.ref := rfl
@[simp] theorem State.freeRow_cur : s.freeRow.cur = s.cur := rfl
@[simp] theorem State.freeRow_a0 : s.freeRow.a0 = (Config.freeA0 s.freeCount).toInt := rfl
@[simp] theorem State.freeRow_b1 : s.freeRow.b1 = (Config.freeB1 s.freeCount).toInt := rfl
@[simp] theorem State.freeRow_pr : s.freeRow.pr = (Config.freePr s.freeCount).toNat := rfl
@[simp] theorem State.freeRow_rle : s.freeRow.rle = (Config.freeRle s.freeCount).toNat := rfl
@[simp] theorem State.freeRow_color : s.freeRow.color = if Config.freeColor s.freeCount then .black else .white := rfl
@[simp] theorem State.freeRow_cwstart : s.freeRow.cwstart = Config.freeCwstart s.freeCount := rfl
@[simp] theorem State.freeRow_out : s.freeRow.out = s.out := rfl
@[simp] theorem State.freeRow_ctxd : s.freeRow.ctxd = s.ctxd := rfl
@[simp] theorem State.freeRow_ctxx : s.freeRow.ctxx = s.ctxx := rfl
@[simp] theorem State.freeRow_tb : s.freeRow.tb = s.tb := rfl
@[simp] theorem State.freeRow_model : s.freeRow.model = s.model := rfl
@[simp] theorem State.freeRow_x : s.freeRow.x = s.x := rfl
@[simp] theorem State.freeRow_y : s.freeRow.y = s.y := rfl
@[simp] theorem State.freeRow_ctx : s.freeRow.ctx = s.ctx := rfl
@[simp] theorem State.freeRow_xd2c : s.freeRow.xd2c = s.xd2c := rfl
@[simp] theorem State.freeRow_yd2c : s.freeRow.yd2c = s.yd2c := rfl
@[simp] theorem State.freeRow_zp : s.freeRow.zp = s.zp := rfl
@[simp] theorem State.freeRow_pos : s.freeRow.pos = s.pos := rfl
@[simp] theorem State.freeRow_scan : s.freeRow.scan = s.scan := rfl
@[simp] theorem State.freeRow_result : s.freeRow.result = s.result := rfl
@[simp] theorem State.freeRow_inbox : s.freeRow.inbox = s.inbox := rfl
@[simp] theorem State.freeRow_freeCount : s.freeRow.freeCount = s.freeCount + 1 := rfl

@[simp] theorem State.freeCur_ovrClamp : s.freeCur.ovrClamp = s.ovrClamp := rfl
@[simp] theorem State.freeCur_mmrState : s.freeCur.mmrState = s.mmrState := rfl
@[simp] theorem State.freeCur_jb2Failed : s.freeCur.jb2Failed = s.jb2Failed := rfl
@[simp] theorem State.freeCur_mmrErr : s.freeCur.mmrErr = s.mmrErr := rfl
@[simp] theorem State.freeCur_jb2Err : s.freeCur.jb2Err = s.jb2Err := rfl
@[simp] theorem State.freeCur_lastErr : s.freeCur.lastErr = s.lastErr := rfl
@[simp] theorem State.freeCur_width : s.freeCur.width = s.width := rfl
@[simp] theorem State.freeCur_height : s.freeCur.height = s.height := rfl
@[simp] theorem State.freeCur_flags : s.freeCur.flags = s.flags := rfl
@[simp] theorem State.freeCur_rps : s.freeCur.rps = s.rps := rfl
@[simp] theorem State.freeCur_lineno : s.freeCur.lineno = s.lineno := rfl
@[simp] theorem State.freeCur_striplineno : s.freeCur.striplineno = s.striplineno := rfl
@[simp] theorem State.freeCur_stripeno : s.freeCur.stripeno = s.stripeno := rfl
@[simp] theorem State.freeCur_bitpos : s.freeCur.bitpos = s.bitpos := rfl
@[simp] theorem State.freeCur_errrow : s.freeCur.errrow = s.errrow := rfl
@[simp] theorem State.freeCur_errbit : s.freeCur.errbit = s.errbit := rfl
@[simp] theorem State.freeCur_jb2Errx : s.freeCur.jb2Errx = s.jb2Errx := rfl
@[simp] theorem State.freeCur_jb2Erry : s.freeCur.jb2Erry = s.jb2Erry := rfl
@[simp] theorem State.freeCur_stream : s.freeCur.stream = s.stream := rfl
@[simp] theorem State.freeCur_sp : s.freeCur.sp = s.sp := rfl
@[simp] theorem State.freeCur_send : s.freeCur.send = s.send := rfl
@[simp] theorem State.freeCur_sdata : s.freeCur.sdata = s.sdata := rfl
@[simp] theorem State.freeCur_ref : s.freeCur.ref = s.ref := rfl
@[simp] theorem State.freeCur_cur : s.freeCur.cur = (List.range s.cur.length).map fun i => (Config.freeRun s.freeCount i).toNat := rfl
@[simp] theorem State.freeCur_a0 : s.freeCur.a0 = s.a0 := rfl
@[simp] theorem State.freeCur_b1 : s.freeCur.b1 = s.b1 := rfl
@[simp] theorem State.freeCur_pr : s.freeCur.pr = s.pr := rfl
@[simp] theorem State.freeCur_rle : s.freeCur.rle = s.rle := rfl
@[simp] theorem State.freeCur_color : s.freeCur.color = s.color := rfl
@[simp] theorem State.freeCur_cwstart : s.freeCur.cwstart = s.cwstart := rfl
@[simp] theorem State.freeCur_out : s.freeCur.out = s.out := rfl
@[simp] theorem State.freeCur_ctxd : s.freeCur.ctxd = s.ctxd := rfl
@[simp] theorem State.freeCur_ctxx : s.freeCur.ctxx = s.ctxx := rfl
@[simp] theorem State.freeCur_tb : s.freeCur.tb = s.tb := rfl
@[simp] theorem State.freeCur_model : s.freeCur.model = s.model := rfl
@[simp] theorem State.freeCur_x : s.freeCur.x = s.x := rfl
@[simp] theorem State.freeCur_y : s.freeCur.y = s.y := rfl
@[simp] theorem State.freeCur_ctx : s.freeCur.ctx = s.ctx := rfl
@[simp] theorem State.freeCur_xd2c : s.freeCur.xd2c = s.xd2c := rfl
@[simp] theorem State.freeCur_yd2c : s.freeCur.yd2c = s.yd2c := rfl
@[simp] theorem State.freeCur_zp : s.freeCur.zp = s.zp := rfl
@[simp] theorem State.freeCur_pos : s.freeCur.pos = s.pos := rfl
@[simp] theorem State.freeCur_scan : s.freeCur.scan = s.scan := rfl
@[simp] theorem State.freeCur_result : s.freeCur.result = s.result := rfl
@[simp] theorem State.freeCur_inbox : s.freeCur.inbox = s.inbox := rfl
@[simp] theorem State.freeCur_freeCount : s.freeCur.freeCount = s.freeCount + 1 := rfl

@[simp] theorem State.freeOutBuffer_ovrClamp : s.freeOutBuffer.ovrClamp = s.ovrClamp := rfl
@[simp] theorem State.freeOutBuffer_mmrState : s.freeOutBuffer.mmrState = s.mmrState := rfl
@[simp] theorem State.freeOutBuffer_jb2Failed : s.freeOutBuffer.jb2Failed = s.jb2Failed := rfl
@[simp] theorem State.freeOutBuffer_mmrErr : s.freeOutBuffer.mmrErr = s.mmrErr := rfl
@[simp] theorem State.freeOutBuffer_jb2Err : s.freeOutBuffer.jb2Err = s.jb2Err := rfl
@[simp] theorem State.freeOutBuffer_lastErr : s.freeOutBuffer.lastErr = s.lastErr := rfl
@[simp] theorem State.freeOutBuffer_width : s.freeOutBuffer.width = s.width := rfl
@[simp] theorem State.freeOutBuffer_height : s.freeOutBuffer.height = s.height := rfl
@[simp] theorem State.freeOutBuffer_flags : s.freeOutBuffer.flags = s.flags := rfl
@[simp] theorem State.freeOutBuffer_rps : s.freeOutBuffer.rps = s.rps := rfl
@[simp] theorem State.freeOutBuffer_lineno : s.freeOutBuffer.lineno = s.lineno := rfl
@[simp] theorem State.freeOutBuffer_striplineno : s.freeOutBuffer.striplineno = s.striplineno := rfl
@[simp] theorem State.freeOutBuffer_stripeno : s.freeOutBuffer.stripeno = s.stripeno := rfl
@[simp] theorem State.freeOutBuffer_bitpos : s.freeOutBuffer.bitpos = s.bitpos := rfl
@[simp] theorem State.freeOutBuffer_errrow : s.freeOutBuffer.errrow = s.errrow := rfl
@[simp] theorem State.freeOutBuffer_errbit : s.freeOutBuffer.errbit = s.errbit := rfl
@[simp] theorem State.freeOutBuffer_jb2Errx : s.freeOutBuffer.jb2Errx = s.jb2Errx := rfl
@[simp] theorem State.freeOutBuffer_jb2Erry : s.freeOutBuffer.jb2Erry = s.jb2Erry := rfl
@[simp] theorem State.freeOutBuffer_stream : s.freeOutBuffer.stream = s.stream := rfl
@[simp] theorem State.freeOutBuffer_sp : s.freeOutBuffer.sp = s.sp := rfl
@[simp] theorem State.freeOutBuffer_send : s.freeOutBuffer.send = s.send := rfl
@[simp] theorem State.freeOutBuffer_sdata : s.freeOutBuffer.sdata = s.sdata := rfl
@[simp] theorem State.freeOutBuffer_ref : s.freeOutBuffer.ref = s.ref := rfl
@[simp] theorem State.freeOutBuffer_cur : s.freeOutBuffer.cur = s.cur := rfl
@[simp] theorem State.freeOutBuffer_a0 : s.freeOutBuffer.a0 = s.a0 := rfl
@[simp] theorem State.freeOutBuffer_b1 : s.freeOutBuffer.b1 = s.b1 := rfl
@[simp] theorem State.freeOutBuffer_pr : s.freeOutBuffer.pr = s.pr := rfl
@[simp] theorem State.freeOutBuffer_rle : s.freeOutBuffer.rle = s.rle := rfl
@[simp] theorem State.freeOutBuffer_color : s.freeOutBuffer.color = s.color := rfl
@[simp] theorem State.freeOutBuffer_cwstart : s.freeOutBuffer.cwstart = s.cwstart := rfl
@[simp] theorem State.freeOutBuffer_out : s.freeOutBuffer.out = Config.freeOut s.freeCount := rfl
@[simp] theorem State.freeOutBuffer_ctxd : s.freeOutBuffer.ctxd = s.ctxd := rfl
@[simp] theorem State.freeOutBuffer_ctxx : s.freeOutBuffer.ctxx = s.ctxx := rfl
@[simp] theorem State.freeOutBuffer_tb : s.freeOutBuffer.tb = s.tb := rfl
@[simp] theorem State.freeOutBuffer_model : s.freeOutBuffer.model = s.model := rfl
@[simp] theorem State.freeOutBuffer_x : s.freeOutBuffer.x = s.x := rfl
@[simp] theorem State.freeOutBuffer_y : s.freeOutBuffer.y = s.y := rfl
@[simp] theorem State.freeOutBuffer_ctx : s.freeOutBuffer.ctx = s.ctx := rfl
@[simp] theorem State.freeOutBuffer_xd2c : s.freeOutBuffer.xd2c = s.xd2c := rfl
@[simp] theorem State.freeOutBuffer_yd2c : s.freeOutBuffer.yd2c = s.yd2c := rfl
@[simp] theorem State.freeOutBuffer_zp : s.freeOutBuffer.zp = s.zp := rfl
@[simp] theorem State.freeOutBuffer_pos : s.freeOutBuffer.pos = s.pos := rfl
@[simp] theorem State.freeOutBuffer_scan : s.freeOutBuffer.scan = s.scan := rfl
@[simp] theorem State.freeOutBuffer_result : s.freeOutBuffer.result = s.result := rfl
@[simp] theorem State.freeOutBuffer_inbox : s.freeOutBuffer.inbox = s.inbox := rfl
@[simp] theorem State.freeOutBuffer_freeCount : s.freeOutBuffer.freeCount = s.freeCount + 1 := rfl

@[simp] theorem State.freeTb_ovrClamp : s.freeTb.ovrClamp = s.ovrClamp := rfl
@[simp] theorem State.freeTb_mmrState : s.freeTb.mmrState = s.mmrState := rfl
@[simp] theorem State.freeTb_jb2Failed : s.freeTb.jb2Failed = s.jb2Failed := rfl
@[simp] theorem State.freeTb_mmrErr : s.freeTb.mmrErr = s.mmrErr := rfl
@[simp] theorem State.freeTb_jb2Err : s.freeTb.jb2Err = s.jb2Err := rfl
@[simp] theorem State.freeTb_lastErr : s.freeTb.lastErr = s.lastErr := rfl
@[simp] theorem State.freeTb_width : s.freeTb.width = s.width := rfl
@[simp] theorem State.freeTb_height : s.freeTb.height = s.height := rfl
@[simp] theorem State.freeTb_flags : s.freeTb.flags = s.flags := rfl
@[simp] theorem State.freeTb_rps : s.freeTb.rps = s.rps := rfl
@[simp] theorem State.freeTb_lineno : s.freeTb.lineno = s.lineno := rfl
@[simp] theorem State.freeTb_striplineno : s.freeTb.striplineno = s.striplineno := rfl
@[simp] theorem State.freeTb_stripeno : s.freeTb.stripeno = s.stripeno := rfl
@[simp] theorem State.freeTb_bitpos : s.freeTb.bitpos = s.bitpos := rfl
@[simp] theorem State.freeTb_errrow : s.freeTb.errrow = s.errrow := rfl
@[simp] theorem State.freeTb_errbit : s.freeTb.errbit = s.errbit := rfl
@[simp] theorem State.freeTb_jb2Errx : s.freeTb.jb2Errx = s.jb2Errx := rfl
@[simp] theorem State.freeTb_jb2Erry : s.freeTb.jb2Erry = s.jb2Erry := rfl
@[simp] theorem State.freeTb_stream : s.freeTb.stream = s.stream := rfl
@[simp] theorem State.freeTb_sp : s.freeTb.sp = s.sp := rfl
@[simp] theorem State.freeTb_send : s.freeTb.send = s.send := rfl
@[simp] theorem State.freeTb_sdata : s.freeTb.sdata = s.sdata := rfl
@[simp] theorem State.freeTb_ref : s.freeTb.ref = s.ref := rfl
@[simp] theorem State.freeTb_cur : s.freeTb.cur = s.cur := rfl
@[simp] theorem State.freeTb_a0 : s.freeTb.a0 = s.a0 := rfl
@[simp] theorem State.freeTb_b1 : s.freeTb.b1 = s.b1 := rfl
@[simp] theorem State.freeTb_pr : s.freeTb.pr = s.pr := rfl
@[simp] theorem State.freeTb_rle : s.freeTb.rle = s.rle := rfl
@[simp] theorem State.freeTb_color : s.freeTb.color = s.color := rfl
@[simp] theorem State.freeTb_cwstart : s.freeTb.cwstart = s.cwstart := rfl
@[simp] theorem State.freeTb_out : s.freeTb.out = s.out := rfl
@[simp] theorem State.freeTb_ctxd : s.freeTb.ctxd = s.ctxd := rfl
@[simp] theorem State.freeTb_ctxx : s.freeTb.ctxx = s.ctxx := rfl
@[simp] theorem State.freeTb_tb : s.freeTb.tb = ⟨s.tb.w, s.tb.h, (List.range s.tb.px.length).map fun i => Config.freePixel s.freeCount i⟩ := rfl
@[simp] theorem State.freeTb_model : s.freeTb.model = s.model := rfl
@[simp] theorem State.freeTb_x : s.freeTb.x = s.x := rfl
@[simp] theorem State.freeTb_y : s.freeTb.y = s.y := rfl
@[simp] theorem State.freeTb_ctx : s.freeTb.ctx = s.ctx := rfl
@[simp] theorem State.freeTb_xd2c : s.freeTb.xd2c = s.xd2c := rfl
@[simp] theorem State.freeTb_yd2c : s.freeTb.yd2c = s.yd2c := rfl
@[simp] theorem State.freeTb_zp : s.freeTb.zp = s.zp := rfl
@[simp] theorem State.freeTb_pos : s.freeTb.pos = s.pos := rfl
@[simp] theorem State.freeTb_scan : s.freeTb.scan = s.scan := rfl
@[simp] theorem State.freeTb_result : s.freeTb.result = s.result := rfl
@[simp] theorem State.freeTb_inbox : s.freeTb.inbox = s.inbox := rfl
@[simp] theorem State.freeTb_freeCount : s.freeTb.freeCount = s.freeCount + 1 := rfl

@[simp] theorem State.freeJb2_ovrClamp : s.freeJb2.ovrClamp = s.ovrClamp := rfl
@[simp] theorem State.freeJb2_mmrState : s.freeJb2.mmrState = s.mmrState := rfl
@[simp] theorem State.freeJb2_jb2Failed : s.freeJb2.jb2Failed = s.jb2Failed := rfl
@[simp] theorem State.freeJb2_mmrErr : s.freeJb2.mmrErr = s.mmrErr := rfl
@[simp] theorem State.freeJb2_jb2Err : s.freeJb2.jb2Err = s.jb2Err := rfl
@[simp] theorem State.freeJb2_lastErr : s.freeJb2.lastErr = s.lastErr := rfl
@[simp] theorem State.freeJb2_width : s.freeJb2.width = s.width := rfl
@[simp] theorem State.freeJb2_height : s.freeJb2.height = s.height := rfl
@[simp] theorem State.freeJb2_flags : s.freeJb2.flags = s.flags := rfl
@[simp] theorem State.freeJb2_rps : s.freeJb2.rps = s.rps := rfl
@[simp] theorem State.freeJb2_lineno : s.freeJb2.lineno = s.lineno := rfl
@[simp] theorem State.freeJb2_striplineno : s.freeJb2.striplineno = s.striplineno := rfl
@[simp] theorem State.freeJb2_stripeno : s.freeJb2.stripeno = s.stripeno := rfl
@[simp] theorem State.freeJb2_bitpos : s.freeJb2.bitpos = s.bitpos := rfl
@[simp] theorem State.freeJb2_errrow : s.freeJb2.errrow = s.errrow := rfl
@[simp] theorem State.freeJb2_errbit : s.freeJb2.errbit = s.errbit := rfl
@[simp] theorem State.freeJb2_jb2Errx : s.freeJb2.jb2Errx = s.jb2Errx := rfl
@[simp] theorem State.freeJb2_jb2Erry : s.freeJb2.jb2Erry = s.jb2Erry := rfl
@[simp] theorem State.freeJb2_stream : s.freeJb2.stream = s.stream := rfl
@[simp] theorem State.freeJb2_sp : s.freeJb2.sp = s.sp := rfl
@[simp] theorem State.freeJb2_send : s.freeJb2.send = s.send := rfl
@[simp] theorem State.freeJb2_sdata : s.freeJb2.sdata = s.sdata := rfl
@[simp] theorem State.freeJb2_ref : s.freeJb2.ref = s.ref := rfl
@[simp] theorem State.freeJb2_cur : s.freeJb2.cur = s.cur := rfl
@[simp] theorem State.freeJb2_a0 : s.freeJb2.a0 = s.a0 := rfl
@[simp] theorem State.freeJb2_b1 : s.freeJb2.b1 = s.b1 := rfl
@[simp] theorem State.freeJb2_pr : s.freeJb2.pr = s.pr := rfl
@[simp] theorem State.freeJb2_rle : s.freeJb2.rle = s.rle := rfl
@[simp] theorem State.freeJb2_color : s.freeJb2.color = s.color := rfl
@[simp] theorem State.freeJb2_cwstart : s.freeJb2.cwstart = s.cwstart := rfl
@[simp] theorem State.freeJb2_out : s.freeJb2.out = s.out := rfl
@[simp] theorem State.freeJb2_ctxd : s.freeJb2.ctxd = s.ctxd := rfl
@[simp] theorem State.freeJb2_ctxx : s.freeJb2.ctxx = s.ctxx := rfl
@[simp] theorem State.freeJb2_tb : s.freeJb2.tb = s.tb := rfl
@[simp] theorem State.freeJb2_model : s.freeJb2.model = none := rfl
@[simp] theorem State.freeJb2_x : s.freeJb2.x = (Config.freeX s.freeCount).toInt := rfl
@[simp] theorem State.freeJb2_y : s.freeJb2.y = (Config.freeY s.freeCount).toInt := rfl
@[simp] theorem State.freeJb2_ctx : s.freeJb2.ctx = Config.freeCtx s.freeCount := rfl
@[simp] theorem State.freeJb2_xd2c : s.freeJb2.xd2c = (Config.freeXd2c s.freeCount).toInt := rfl
@[simp] theorem State.freeJb2_yd2c : s.freeJb2.yd2c = (Config.freeYd2c s.freeCount).toInt := rfl
@[simp] theorem State.freeJb2_zp : s.freeJb2.zp = s.zp := rfl
@[simp] theorem State.freeJb2_pos : s.freeJb2.pos = s.pos := rfl
@[simp] theorem State.freeJb2_scan : s.freeJb2.scan = s.scan := rfl
@[simp] theorem State.freeJb2_result : s.freeJb2.result = s.result := rfl
@[simp] theorem State.freeJb2_inbox : s.freeJb2.inbox = s.inbox := rfl
@[simp] theorem State.freeJb2_freeCount : s.freeJb2.freeCount = s.freeCount + 1 := rfl

@[simp] theorem State.reply_ovrClamp (r : CmdResult) : (s.reply r).ovrClamp = s.ovrClamp := rfl
@[simp] theorem State.reply_mmrState (r : CmdResult) : (s.reply r).mmrState = s.mmrState := rfl
@[simp] theorem State.reply_jb2Failed (r : CmdResult) : (s.reply r).jb2Failed = s.jb2Failed := rfl
@[simp] theorem State.reply_mmrErr (r : CmdResult) : (s.reply r).mmrErr = s.mmrErr := rfl
@[simp] theorem State.reply_jb2Err (r : CmdResult) : (s.reply r).jb2Err = s.jb2Err := rfl
@[simp] theorem State.reply_lastErr (r : CmdResult) : (s.reply r).lastErr = s.lastErr := rfl
@[simp] theorem State.reply_width (r : CmdResult) : (s.reply r).width = s.width := rfl
@[simp] theorem State.reply_height (r : CmdResult) : (s.reply r).height = s.height := rfl
@[simp] theorem State.reply_flags (r : CmdResult) : (s.reply r).flags = s.flags := rfl
@[simp] theorem State.reply_rps (r : CmdResult) : (s.reply r).rps = s.rps := rfl
@[simp] theorem State.reply_lineno (r : CmdResult) : (s.reply r).lineno = s.lineno := rfl
@[simp] theorem State.reply_striplineno (r : CmdResult) : (s.reply r).striplineno = s.striplineno := rfl
@[simp] theorem State.reply_stripeno (r : CmdResult) : (s.reply r).stripeno = s.stripeno := rfl
@[simp] theorem State.reply_bitpos (r : CmdResult) : (s.reply r).bitpos = s.bitpos := rfl
@[simp] theorem State.reply_errrow (r : CmdResult) : (s.reply r).errrow = s.errrow := rfl
@[simp] theorem State.reply_errbit (r : CmdResult) : (s.reply r).errbit = s.errbit := rfl
@[simp] theorem State.reply_jb2Errx (r : CmdResult) : (s.reply r).jb2Errx = s.jb2Errx := rfl
@[simp] theorem State.reply_jb2Erry (r : CmdResult) : (s.reply r).jb2Erry = s.jb2Erry := rfl
@[simp] theorem State.reply_stream (r : CmdResult) : (s.reply r).stream = s.stream := rfl
@[simp] theorem State.reply_sp (r : CmdResult) : (s.reply r).sp = s.sp := rfl
@[simp] theorem State.reply_send (r : CmdResult) : (s.reply r).send = s.send := rfl
@[simp] theorem State.reply_sdata (r : CmdResult) : (s.reply r).sdata = s.sdata := rfl
@[simp] theorem State.reply_ref (r : CmdResult) : (s.reply r).ref = s.ref := rfl
@[simp] theorem State.reply_cur (r : CmdResult) : (s.reply r).cur = s.cur := rfl
@[simp] theorem State.reply_a0 (r : CmdResult) : (s.reply r).a0 = s.a0 := rfl
@[simp] theorem State.reply_b1 (r : CmdResult) : (s.reply r).b1 = s.b1 := rfl
@[simp] theorem State.reply_pr (r : CmdResult) : (s.reply r).pr = s.pr := rfl
@[simp] theorem State.reply_rle (r : CmdResult) : (s.reply r).rle = s.rle := rfl
@[simp] theorem State.reply_color (r : CmdResult) : (s.reply r).color = s.color := rfl
@[simp] theorem State.reply_cwstart (r : CmdResult) : (s.reply r).cwstart = s.cwstart := rfl
@[simp] theorem State.reply_out (r : CmdResult) : (s.reply r).out = s.out := rfl
@[simp] theorem State.reply_ctxd (r : CmdResult) : (s.reply r).ctxd = s.ctxd := rfl
@[simp] theorem State.reply_ctxx (r : CmdResult) : (s.reply r).ctxx = s.ctxx := rfl
@[simp] theorem State.reply_tb (r : CmdResult) : (s.reply r).tb = s.tb := rfl
@[simp] theorem State.reply_model (r : CmdResult) : (s.reply r).model = s.model := rfl
@[simp] theorem State.reply_x (r : CmdResult) : (s.reply r).x = s.x := rfl
@[simp] theorem State.reply_y (r : CmdResult) : (s.reply r).y = s.y := rfl
@[simp] theorem State.reply_ctx (r : CmdResult) : (s.reply r).ctx = s.ctx := rfl
@[simp] theorem State.reply_xd2c (r : CmdResult) : (s.reply r).xd2c = s.xd2c := rfl
@[simp] theorem State.reply_yd2c (r : CmdResult) : (s.reply r).yd2c = s.yd2c := rfl
@[simp] theorem State.reply_zp (r : CmdResult) : (s.reply r).zp = s.zp := rfl
@[simp] theorem State.reply_pos (r : CmdResult) : (s.reply r).pos = .idle := rfl
@[simp] theorem State.reply_scan (r : CmdResult) : (s.reply r).scan = s.scan := rfl
@[simp] theorem State.reply_result (r : CmdResult) : (s.reply r).result = some r := rfl
@[simp] theorem State.reply_inbox (r : CmdResult) : (s.reply r).inbox = s.inbox := rfl
@[simp] theorem State.reply_freeCount (r : CmdResult) : (s.reply r).freeCount = s.freeCount := rfl

@[simp] theorem State.replyErr_ovrClamp (e : ErrCode) : (s.replyErr e).ovrClamp = s.ovrClamp := rfl
@[simp] theorem State.replyErr_mmrState (e : ErrCode) : (s.replyErr e).mmrState = s.mmrState := rfl
@[simp] theorem State.replyErr_jb2Failed (e : ErrCode) : (s.replyErr e).jb2Failed = s.jb2Failed := rfl
@[simp] theorem State.replyErr_mmrErr (e : ErrCode) : (s.replyErr e).mmrErr = s.mmrErr := rfl
@[simp] theorem State.replyErr_jb2Err (e : ErrCode) : (s.replyErr e).jb2Err = s.jb2Err := rfl
@[simp] theorem State.replyErr_lastErr (e : ErrCode) : (s.replyErr e).lastErr = e := rfl
@[simp] theorem State.replyErr_width (e : ErrCode) : (s.replyErr e).width = s.width := rfl
@[simp] theorem State.replyErr_height (e : ErrCode) : (s.replyErr e).height = s.height := rfl
@[simp] theorem State.replyErr_flags (e : ErrCode) : (s.replyErr e).flags = s.flags := rfl
@[simp] theorem State.replyErr_rps (e : ErrCode) : (s.replyErr e).rps = s.rps := rfl
@[simp] theorem State.replyErr_lineno (e : ErrCode) : (s.replyErr e).lineno = s.lineno := rfl
@[simp] theorem State.replyErr_striplineno (e : ErrCode) : (s.replyErr e).striplineno = s.striplineno := rfl
@[simp] theorem State.replyErr_stripeno (e : ErrCode) : (s.replyErr e).stripeno = s.stripeno := rfl
@[simp] theorem State.replyErr_bitpos (e : ErrCode) : (s.replyErr e).bitpos = s.bitpos := rfl
@[simp] theorem State.replyErr_errrow (e : ErrCode) : (s.replyErr e).errrow = s.errrow := rfl
@[simp] theorem State.replyErr_errbit (e : ErrCode) : (s.replyErr e).errbit = s.errbit := rfl
@[simp] theorem State.replyErr_jb2Errx (e : ErrCode) : (s.replyErr e).jb2Errx = s.jb2Errx := rfl
@[simp] theorem State.replyErr_jb2Erry (e : ErrCode) : (s.replyErr e).jb2Erry = s.jb2Erry := rfl
@[simp] theorem State.replyErr_stream (e : ErrCode) : (s.replyErr e).stream = s.stream := rfl
@[simp] theorem State.replyErr_sp (e : ErrCode) : (s.replyErr e).sp = s.sp := rfl
@[simp] theorem State.replyErr_send (e : ErrCode) : (s.replyErr e).send = s.send := rfl
@[simp] theorem State.replyErr_sdata (e : ErrCode) : (s.replyErr e).sdata = s.sdata := rfl
@[simp] theorem State.replyErr_ref (e : ErrCode) : (s.replyErr e).ref = s.ref := rfl
@[simp] theorem State.replyErr_cur (e : ErrCode) : (s.replyErr e).cur = s.cur := rfl
@[simp] theorem State.replyErr_a0 (e : ErrCode) : (s.replyErr e).a0 = s.a0 := rfl
@[simp] theorem State.replyErr_b1 (e : ErrCode) : (s.replyErr e).b1 = s.b1 := rfl
@[simp] theorem State.replyErr_pr (e : ErrCode) : (s.replyErr e).pr = s.pr := rfl
@[simp] theorem State.replyErr_rle (e : ErrCode) : (s.replyErr e).rle = s.rle := rfl
@[simp] theorem State.replyErr_color (e : ErrCode) : (s.replyErr e).color = s.color := rfl
@[simp] theorem State.replyErr_cwstart (e : ErrCode) : (s.replyErr e).cwstart = s.cwstart := rfl
@[simp] theorem State.replyErr_out (e : ErrCode) : (s.replyErr e).out = s.out := rfl
@[simp] theorem State.replyErr_ctxd (e : ErrCode) : (s.replyErr e).ctxd = s.ctxd := rfl
@[simp] theorem State.replyErr_ctxx (e : ErrCode) : (s.replyErr e).ctxx = s.ctxx := rfl
@[simp] theorem State.replyErr_tb (e : ErrCode) : (s.replyErr e).tb = s.tb := rfl
@[simp] theorem State.replyErr_model (e : ErrCode) : (s.replyErr e).model = s.model := rfl
@[simp] theorem State.replyErr_x (e : ErrCode) : (s.replyErr e).x = s.x := rfl
@[simp] theorem State.replyErr_y (e : ErrCode) : (s.replyErr e).y = s.y := rfl
@[simp] theorem State.replyErr_ctx (e : ErrCode) : (s.replyErr e).ctx = s.ctx := rfl
@[simp] theorem State.replyErr_xd2c (e : ErrCode) : (s.replyErr e).xd2c = s.xd2c := rfl
@[simp] theorem State.replyErr_yd2c (e : ErrCode) : (s.replyErr e).yd2c = s.yd2c := rfl
@[simp] theorem State.replyErr_zp (e : ErrCode) : (s.replyErr e).zp = s.zp := rfl
@[simp] theorem State.replyErr_pos (e : ErrCode) : (s.replyErr e).pos = .idle := rfl
@[simp] theorem State.replyErr_scan (e : ErrCode) : (s.replyErr e).scan = s.scan := rfl
@[simp] theorem State.replyErr_result (e : ErrCode) : (s.replyErr e).result = some (.err e) := rfl
@[simp] theorem State.replyErr_inbox (e : ErrCode) : (s.replyErr e).inbox = s.inbox := rfl
@[simp] theorem State.replyErr_freeCount (e : ErrCode) : (s.replyErr e).freeCount = s.freeCount := rfl

@[simp] theorem State.accept_ovrClamp : s.accept.ovrClamp = s.ovrClamp := rfl
@[simp] theorem State.accept_mmrState : s.accept.mmrState = s.mmrState := rfl
@[simp] theorem State.accept_jb2Failed : s.accept.jb2Failed = s.jb2Failed := rfl
@[simp] theorem State.accept_mmrErr : s.accept.mmrErr = s.mmrErr := rfl
@[simp] theorem State.accept_jb2Err : s.accept.jb2Err = s.jb2Err := rfl
@[simp] theorem State.accept_lastErr : s.accept.lastErr = s.lastErr := rfl
@[simp] theorem State.accept_width : s.accept.width = s.width := rfl
@[simp] theorem State.accept_height : s.accept.height = s.height := rfl
@[simp] theorem State.accept_flags : s.accept.flags = s.flags := rfl
@[simp] theorem State.accept_rps : s.accept.rps = s.rps := rfl
@[simp] theorem State.accept_lineno : s.accept.lineno = s.lineno := rfl
@[simp] theorem State.accept_striplineno : s.accept.striplineno = s.striplineno := rfl
@[simp] theorem State.accept_stripeno : s.accept.stripeno = s.stripeno := rfl
@[simp] theorem State.accept_bitpos : s.accept.bitpos = s.bitpos := rfl
@[simp] theorem State.accept_errrow : s.accept.errrow = s.errrow := rfl
@[simp] theorem State.accept_errbit : s.accept.errbit = s.errbit := rfl
@[simp] theorem State.accept_jb2Errx : s.accept.jb2Errx = s.jb2Errx := rfl
@[simp] theorem State.accept_jb2Erry : s.accept.jb2Erry = s.jb2Erry := rfl
@[simp] theorem State.accept_stream : s.accept.stream = s.stream := rfl
@[simp] theorem State.accept_sp : s.accept.sp = s.sp := rfl
@[simp] theorem State.accept_send : s.accept.send = s.send := rfl
@[simp] theorem State.accept_sdata : s.accept.sdata = s.sdata := rfl
@[simp] theorem State.accept_ref : s.accept.ref = s.ref := rfl
@[simp] theorem State.accept_cur : s.accept.cur = s.cur := rfl
@[simp] theorem State.accept_a0 : s.accept.a0 = s.a0 := rfl
@[simp] theorem State.accept_b1 : s.accept.b1 = s.b1 := rfl
@[simp] theorem State.accept_pr : s.accept.pr = s.pr := rfl
@[simp] theorem State.accept_rle : s.accept.rle = s.rle := rfl
@[simp] theorem State.accept_color : s.accept.color = s.color := rfl
@[simp] theorem State.accept_cwstart : s.accept.cwstart = s.cwstart := rfl
@[simp] theorem State.accept_out : s.accept.out = s.out := rfl
@[simp] theorem State.accept_ctxd : s.accept.ctxd = s.ctxd := rfl
@[simp] theorem State.accept_ctxx : s.accept.ctxx = s.ctxx := rfl
@[simp] theorem State.accept_tb : s.accept.tb = s.tb := rfl
@[simp] theorem State.accept_model : s.accept.model = s.model := rfl
@[simp] theorem State.accept_x : s.accept.x = s.x := rfl
@[simp] theorem State.accept_y : s.accept.y = s.y := rfl
@[simp] theorem State.accept_ctx : s.accept.ctx = s.ctx := rfl
@[simp] theorem State.accept_xd2c : s.accept.xd2c = s.xd2c := rfl
@[simp] theorem State.accept_yd2c : s.accept.yd2c = s.yd2c := rfl
@[simp] theorem State.accept_zp : s.accept.zp = s.zp := rfl
@[simp] theorem State.accept_pos : s.accept.pos = s.pos := rfl
@[simp] theorem State.accept_scan : s.accept.scan = s.scan := rfl
@[simp] theorem State.accept_result : s.accept.result = none := rfl
@[simp] theorem State.accept_inbox : s.accept.inbox = s.inbox.tail := rfl
@[simp] theorem State.accept_freeCount : s.accept.freeCount = s.freeCount := rfl

@[simp] theorem rowStart_ovrClamp : (rowStart s).ovrClamp = s.ovrClamp := rfl
@[simp] theorem rowStart_mmrState : (rowStart s).mmrState = s.mmrState := rfl
@[simp] theorem rowStart_jb2Failed : (rowStart s).jb2Failed = s.jb2Failed := rfl
@[simp] theorem rowStart_mmrErr : (rowStart s).mmrErr = s.mmrErr := rfl
@[simp] theorem rowStart_jb2Err : (rowStart s).jb2Err = s.jb2Err := rfl
@[simp] theorem rowStart_lastErr : (rowStart s).lastErr = s.lastErr := rfl
@[simp] theorem rowStart_width : (rowStart s).width = s.width := rfl
@[simp] theorem rowStart_height : (rowStart s).height = s.height := rfl
@[simp] theorem rowStart_flags : (rowStart s).flags = s.flags := rfl
@[simp] theorem rowStart_rps : (rowStart s).rps = s.rps := rfl
@[simp] theorem rowStart_lineno : (rowStart s).lineno = s.lineno := rfl
@[simp] theorem rowStart_striplineno : (rowStart s).striplineno = s.striplineno := rfl
@[simp] theorem rowStart_stripeno : (rowStart s).stripeno = s.stripeno := rfl
@[simp] theorem rowStart_bitpos : (rowStart s).bitpos = s.bitpos := rfl
@[simp] theorem rowStart_errrow : (rowStart s).errrow = s.errrow := rfl
@[simp] theorem rowStart_errbit : (rowStart s).errbit = s.errbit := rfl
@[simp] theorem rowStart_jb2Errx : (rowStart s).jb2Errx = s.jb2Errx := rfl
@[simp] theorem rowStart_jb2Erry : (rowStart s).jb2Erry = s.jb2Erry := rfl
@[simp] theorem rowStart_stream : (rowStart s).stream = s.stream := rfl
@[simp] theorem rowStart_sp : (rowStart s).sp = s.sp := rfl
@[simp] theorem rowStart_send : (rowStart s).send = s.send := rfl
@[simp] theorem rowStart_sdata : (rowStart s).sdata = s.sdata := rfl
@[simp] theorem rowStart_ref : (rowStart s).ref = s.ref := rfl
@[simp] theorem rowStart_cur : (rowStart s).cur = [] := rfl
@[simp] theorem rowStart_a0 : (rowStart s).a0 = 0 := rfl
@[simp] theorem rowStart_b1 : (rowStart s).b1 = s.refAt 0 := rfl
@[simp] theorem rowStart_pr : (rowStart s).pr = 1 := rfl
@[simp] theorem rowStart_rle : (rowStart s).rle = 0 := rfl
@[simp] theorem rowStart_color : (rowStart s).color = .white := rfl
@[simp] theorem rowStart_cwstart : (rowStart s).cwstart = s.cwstart := rfl
@[simp] theorem rowStart_out : (rowStart s).out = s.out := rfl
@[simp] theorem rowStart_ctxd : (rowStart s).ctxd = s.ctxd := rfl
@[simp] theorem rowStart_ctxx : (rowStart s).ctxx = s.ctxx := rfl
@[simp] theorem rowStart_tb : (rowStart s).tb = s.tb := rfl
@[simp] theorem rowStart_model : (rowStart s).model = s.model := rfl
@[simp] theorem rowStart_x : (rowStart s).x = s.x := rfl
@[simp] theorem rowStart_y : (rowStart s).y = s.y := rfl
@[simp] theorem rowStart_ctx : (rowStart s).ctx = s.ctx := rfl
@[simp] theorem rowStart_xd2c : (rowStart s).xd2c = s.xd2c := rfl
@[simp] theorem rowStart_yd2c : (rowStart s).yd2c = s.yd2c := rfl
@[simp] theorem rowStart_zp : (rowStart s).zp = s.zp := rfl
@[simp] theorem rowStart_pos : (rowStart s).pos = s.pos := rfl
@[simp] theorem rowStart_scan : (rowStart s).scan = s.scan := rfl
@[simp] theorem rowStart_result : (rowStart s).result = s.result := rfl
@[simp] theorem rowStart_inbox : (rowStart s).inbox = s.inbox := rfl
@[simp] theorem rowStart_freeCount : (rowStart s).freeCount = s.freeCount := rfl

@[simp] theorem commit_ovrClamp : (commit s).ovrClamp = s.ovrClamp := rfl
@[simp] theorem commit_mmrState : (commit s).mmrState = s.mmrState := rfl
@[simp] theorem commit_jb2Failed : (commit s).jb2Failed = s.jb2Failed := rfl
@[simp] theorem commit_mmrErr : (commit s).mmrErr = s.mmrErr := rfl
@[simp] theorem commit_jb2Err : (commit s).jb2Err = s.jb2Err := rfl
@[simp] theorem commit_lastErr : (commit s).lastErr = s.lastErr := rfl
@[simp] theorem commit_width : (commit s).width = s.width := rfl
@[simp] theorem commit_height : (commit s).height = s.height := rfl
@[simp] theorem commit_flags : (commit s).flags = s.flags := rfl
@[simp] theorem commit_rps : (commit s).rps = s.rps := rfl
@[simp] theorem commit_lineno : (commit s).lineno = s.lineno + 1 := rfl
@[simp] theorem commit_striplineno : (commit s).striplineno = s.striplineno + 1 := rfl
@[simp] theorem commit_stripeno : (commit s).stripeno = s.stripeno := rfl
@[simp] theorem commit_bitpos : (commit s).bitpos = s.bitpos := rfl
@[simp] theorem commit_errrow : (commit s).errrow = s.errrow := rfl
@[simp] theorem commit_errbit : (commit s).errbit = s.errbit := rfl
@[simp] theorem commit_jb2Errx : (commit s).jb2Errx = s.jb2Errx := rfl
@[simp] theorem commit_jb2Erry : (commit s).jb2Erry = s.jb2Erry := rfl
@[simp] theorem commit_stream : (commit s).stream = s.stream := rfl
@[simp] theorem commit_sp : (commit s).sp = s.sp := rfl
@[simp] theorem commit_send : (commit s).send = s.send := rfl
@[simp] theorem commit_sdata : (commit s).sdata = s.sdata := rfl
@[simp] theorem commit_ref : (commit s).ref = s.cur := rfl
@[simp] theorem commit_cur : (commit s).cur = s.cur := rfl
@[simp] theorem commit_a0 : (commit s).a0 = s.a0 := rfl
@[simp] theorem commit_b1 : (commit s).b1 = s.b1 := rfl
@[simp] theorem commit_pr : (commit s).pr = s.pr := rfl
@[simp] theorem commit_rle : (commit s).rle = s.rle := rfl
@[simp] theorem commit_color : (commit s).color = s.color := rfl
@[simp] theorem commit_cwstart : (commit s).cwstart = s.cwstart := rfl
@[simp] theorem commit_out : (commit s).out = s.out := rfl
@[simp] theorem commit_ctxd : (commit s).ctxd = s.ctxd := rfl
@[simp] theorem commit_ctxx : (commit s).ctxx = s.ctxx := rfl
@[simp] theorem commit_tb : (commit s).tb = s.tb := rfl
@[simp] theorem commit_model : (commit s).model = s.model := rfl
@[simp] theorem commit_x : (commit s).x = s.x := rfl
@[simp] theorem commit_y : (commit s).y = s.y := rfl
@[simp] theorem commit_ctx : (commit s).ctx = s.ctx := rfl
@[simp] theorem commit_xd2c : (commit s).xd2c = s.xd2c := rfl
@[simp] theorem commit_yd2c : (commit s).yd2c = s.yd2c := rfl
@[simp] theorem commit_zp : (commit s).zp = s.zp := rfl
@[simp] theorem commit_pos : (commit s).pos = s.pos := rfl
@[simp] theorem commit_scan : (commit s).scan = s.scan := rfl
@[simp] theorem commit_result : (commit s).result = s.result := rfl
@[simp] theorem commit_inbox : (commit s).inbox = s.inbox := rfl
@[simp] theorem commit_freeCount : (commit s).freeCount = s.freeCount := rfl

@[simp] theorem resync_ovrClamp : (resync s).ovrClamp = s.ovrClamp := rfl
@[simp] theorem resync_mmrState : (resync s).mmrState = s.mmrState := rfl
@[simp] theorem resync_jb2Failed : (resync s).jb2Failed = s.jb2Failed := rfl
@[simp] theorem resync_mmrErr : (resync s).mmrErr = s.mmrErr := rfl
@[simp] theorem resync_jb2Err : (resync s).jb2Err = s.jb2Err := rfl
@[simp] theorem resync_lastErr : (resync s).lastErr = s.lastErr := rfl
@[simp] theorem resync_width : (resync s).width = s.width := rfl
@[simp] theorem resync_height : (resync s).height = s.height := rfl
@[simp] theorem resync_flags : (resync s).flags = s.flags := rfl
@[simp] theorem resync_rps : (resync s).rps = s.rps := rfl
@[simp] theorem resync_lineno : (resync s).lineno = s.lineno := rfl
@[simp] theorem resync_striplineno : (resync s).striplineno = s.striplineno := rfl
@[simp] theorem resync_stripeno : (resync s).stripeno = s.stripeno := rfl
@[simp] theorem resync_bitpos : (resync s).bitpos = s.bitpos := rfl
@[simp] theorem resync_errrow : (resync s).errrow = s.errrow := rfl
@[simp] theorem resync_errbit : (resync s).errbit = s.errbit := rfl
@[simp] theorem resync_jb2Errx : (resync s).jb2Errx = s.jb2Errx := rfl
@[simp] theorem resync_jb2Erry : (resync s).jb2Erry = s.jb2Erry := rfl
@[simp] theorem resync_stream : (resync s).stream = s.stream := rfl
@[simp] theorem resync_sp : (resync s).sp = s.sp := rfl
@[simp] theorem resync_send : (resync s).send = s.send := rfl
@[simp] theorem resync_sdata : (resync s).sdata = s.sdata := rfl
@[simp] theorem resync_ref : (resync s).ref = s.ref := rfl
@[simp] theorem resync_cur : (resync s).cur = s.cur := rfl
@[simp] theorem resync_a0 : (resync s).a0 = s.a0 := rfl
@[simp] theorem resync_b1 : (resync s).b1 = (resyncLoop s.a0 s.width.toNat (s.ref.drop s.pr) s.b1 s.pr).1 := rfl
@[simp] theorem resync_pr : (resync s).pr = (resyncLoop s.a0 s.width.toNat (s.ref.drop s.pr) s.b1 s.pr).2 := rfl
@[simp] theorem resync_rle : (resync s).rle = s.rle := rfl
@[simp] theorem resync_color : (resync s).color = s.color := rfl
@[simp] theorem resync_cwstart : (resync s).cwstart = s.cwstart := rfl
@[simp] theorem resync_out : (resync s).out = s.out := rfl
@[simp] theorem resync_ctxd : (resync s).ctxd = s.ctxd := rfl
@[simp] theorem resync_ctxx : (resync s).ctxx = s.ctxx := rfl
@[simp] theorem resync_tb : (resync s).tb = s.tb := rfl
@[simp] theorem resync_model : (resync s).model = s.model := rfl
@[simp] theorem resync_x : (resync s).x = s.x := rfl
@[simp] theorem resync_y : (resync s).y = s.y := rfl
@[simp] theorem resync_ctx : (resync s).ctx = s.ctx := rfl
@[simp] theorem resync_xd2c : (resync s).xd2c = s.xd2c := rfl
@[simp] theorem resync_yd2c : (resync s).yd2c = s.yd2c := rfl
@[simp] theorem resync_zp : (resync s).zp = s.zp := rfl
@[simp] theorem resync_pos : (resync s).pos = s.pos := rfl
@[simp] theorem resync_scan : (resync s).scan = s.scan := rfl
@[simp] theorem resync_result : (resync s).result = s.result := rfl
@[simp] theorem resync_inbox : (resync s).inbox = s.inbox := rfl
@[simp] theorem resync_freeCount : (resync s).freeCount = s.freeCount := rfl

@[simp] theorem pass_ovrClamp : (pass s).ovrClamp = s.ovrClamp := rfl
@[simp] theorem pass_mmrState : (pass s).mmrState = s.mmrState := rfl
@[simp] theorem pass_jb2Failed : (pass s).jb2Failed = s.jb2Failed := rfl
@[simp] theorem pass_mmrErr : (pass s).mmrErr = s.mmrErr := rfl
@[simp] theorem pass_jb2Err : (pass s).jb2Err = s.jb2Err := rfl
@[simp] theorem pass_lastErr : (pass s).lastErr = s.lastErr := rfl
@[simp] theorem pass_width : (pass s).width = s.width := rfl
@[simp] theorem pass_height : (pass s).height = s.height := rfl
@[simp] theorem pass_flags : (pass s).flags = s.flags := rfl
@[simp] theorem pass_rps : (pass s).rps = s.rps := rfl
@[simp] theorem pass_lineno : (pass s).lineno = s.lineno := rfl
@[simp] theorem pass_striplineno : (pass s).striplineno = s.striplineno := rfl
@[simp] theorem pass_stripeno : (pass s).stripeno = s.stripeno := rfl
@[simp] theorem pass_bitpos : (pass s).bitpos = s.bitpos := rfl
@[simp] theorem pass_errrow : (pass s).errrow = s.errrow := rfl
@[simp] theorem pass_errbit : (pass s).errbit = s.errbit := rfl
@[simp] theorem pass_jb2Errx : (pass s).jb2Errx = s.jb2Errx := rfl
@[simp] theorem pass_jb2Erry : (pass s).jb2Erry = s.jb2Erry := rfl
@[simp] theorem pass_stream : (pass s).stream = s.stream := rfl
@[simp] theorem pass_sp : (pass s).sp = s.sp := rfl
@[simp] theorem pass_send : (pass s).send = s.send := rfl
@[simp] theorem pass_sdata : (pass s).sdata = s.sdata := rfl
@[simp] theorem pass_ref : (pass s).ref = s.ref := rfl
@[simp] theorem pass_cur : (pass s).cur = s.cur := rfl
@[simp] theorem pass_a0 : (pass s).a0 = s.b1 + s.refAt s.pr := rfl
@[simp] theorem pass_b1 : (pass s).b1 = s.b1 + s.refAt s.pr + s.refAt (s.pr + 1) := rfl
@[simp] theorem pass_pr : (pass s).pr = s.pr + 2 := rfl
@[simp] theorem pass_rle : (pass s).rle = s.rle + (s.b1 + s.refAt s.pr - s.a0) := rfl
@[simp] theorem pass_color : (pass s).color = s.color := rfl
@[simp] theorem pass_cwstart : (pass s).cwstart = s.cwstart := rfl
@[simp] theorem pass_out : (pass s).out = s.out := rfl
@[simp] theorem pass_ctxd : (pass s).ctxd = s.ctxd := rfl
@[simp] theorem pass_ctxx : (pass s).ctxx = s.ctxx := rfl
@[simp] theorem pass_tb : (pass s).tb = s.tb := rfl
@[simp] theorem pass_model : (pass s).model = s.model := rfl
@[simp] theorem pass_x : (pass s).x = s.x := rfl
@[simp] theorem pass_y : (pass s).y = s.y := rfl
@[simp] theorem pass_ctx : (pass s).ctx = s.ctx := rfl
@[simp] theorem pass_xd2c : (pass s).xd2c = s.xd2c := rfl
@[simp] theorem pass_yd2c : (pass s).yd2c = s.yd2c := rfl
@[simp] theorem pass_zp : (pass s).zp = s.zp := rfl
@[simp] theorem pass_pos : (pass s).pos = s.pos := rfl
@[simp] theorem pass_scan : (pass s).scan = s.scan := rfl
@[simp] theorem pass_result : (pass s).result = s.result := rfl
@[simp] theorem pass_inbox : (pass s).inbox = s.inbox := rfl
@[simp] theorem pass_freeCount : (pass s).freeCount = s.freeCount := rfl

@[simp] theorem beginOutput_ovrClamp (k : ScanKind) : (beginOutput k s).ovrClamp = s.ovrClamp := rfl
@[simp] theorem beginOutput_mmrState (k : ScanKind) : (beginOutput k s).mmrState = s.mmrState := rfl
@[simp] theorem beginOutput_jb2Failed (k : ScanKind) : (beginOutput k s).jb2Failed = s.jb2Failed := rfl
@[simp] theorem beginOutput_mmrErr (k : ScanKind) : (beginOutput k s).mmrErr = s.mmrErr := rfl
@[simp] theorem beginOutput_jb2Err (k : ScanKind) : (beginOutput k s).jb2Err = s.jb2Err := rfl
@[simp] theorem beginOutput_lastErr (k : ScanKind) : (beginOutput k s).lastErr = s.lastErr := rfl
@[simp] theorem beginOutput_width (k : ScanKind) : (beginOutput k s).width = s.width := rfl
@[simp] theorem beginOutput_height (k : ScanKind) : (beginOutput k s).height = s.height := rfl
@[simp] theorem beginOutput_flags (k : ScanKind) : (beginOutput k s).flags = s.flags := rfl
@[simp] theorem beginOutput_rps (k : ScanKind) : (beginOutput k s).rps = s.rps := rfl
@[simp] theorem beginOutput_lineno (k : ScanKind) : (beginOutput k s).lineno = s.lineno := rfl
@[simp] theorem beginOutput_striplineno (k : ScanKind) : (beginOutput k s).striplineno = s.striplineno := rfl
@[simp] theorem beginOutput_stripeno (k : ScanKind) : (beginOutput k s).stripeno = s.stripeno := rfl
@[simp] theorem beginOutput_bitpos (k : ScanKind) : (beginOutput k s).bitpos = s.bitpos := rfl
@[simp] theorem beginOutput_errrow (k : ScanKind) : (beginOutput k s).errrow = s.errrow := rfl
@[simp] theorem beginOutput_errbit (k : ScanKind) : (beginOutput k s).errbit = s.errbit := rfl
@[simp] theorem beginOutput_jb2Errx (k : ScanKind) : (beginOutput k s).jb2Errx = s.jb2Errx := rfl
@[simp] theorem beginOutput_jb2Erry (k : ScanKind) : (beginOutput k s).jb2Erry = s.jb2Erry := rfl
@[simp] theorem beginOutput_stream (k : ScanKind) : (beginOutput k s).stream = s.stream := rfl
@[simp] theorem beginOutput_sp (k : ScanKind) : (beginOutput k s).sp = s.sp := rfl
@[simp] theorem beginOutput_send (k : ScanKind) : (beginOutput k s).send = s.send := rfl
@[simp] theorem beginOutput_sdata (k : ScanKind) : (beginOutput k s).sdata = s.sdata := rfl
@[simp] theorem beginOutput_ref (k : ScanKind) : (beginOutput k s).ref = s.ref := rfl
@[simp] theorem beginOutput_cur (k : ScanKind) : (beginOutput k s).cur = s.cur := rfl
@[simp] theorem beginOutput_a0 (k : ScanKind) : (beginOutput k s).a0 = s.a0 := rfl
@[simp] theorem beginOutput_b1 (k : ScanKind) : (beginOutput k s).b1 = s.b1 := rfl
@[simp] theorem beginOutput_pr (k : ScanKind) : (beginOutput k s).pr = s.pr := rfl
@[simp] theorem beginOutput_rle (k : ScanKind) : (beginOutput k s).rle = s.rle := rfl
@[simp] theorem beginOutput_color (k : ScanKind) : (beginOutput k s).color = s.color := rfl
@[simp] theorem beginOutput_cwstart (k : ScanKind) : (beginOutput k s).cwstart = s.cwstart := rfl
@[simp] theorem beginOutput_out (k : ScanKind) : (beginOutput k s).out = if k = .rle then [] else s.out := rfl
@[simp] theorem beginOutput_ctxd (k : ScanKind) : (beginOutput k s).ctxd = s.ctxd := rfl
@[simp] theorem beginOutput_ctxx (k : ScanKind) : (beginOutput k s).ctxx = s.ctxx := rfl
@[simp] theorem beginOutput_tb (k : ScanKind) : (beginOutput k s).tb = s.tb := rfl
@[simp] theorem beginOutput_model (k : ScanKind) : (beginOutput k s).model = s.model := rfl
@[simp] theorem beginOutput_x (k : ScanKind) : (beginOutput k s).x = s.x := rfl
@[simp] theorem beginOutput_y (k : ScanKind) : (beginOutput k s).y = s.y := rfl
@[simp] theorem beginOutput_ctx (k : ScanKind) : (beginOutput k s).ctx = s.ctx := rfl
@[simp] theorem beginOutput_xd2c (k : ScanKind) : (beginOutput k s).xd2c = s.xd2c := rfl
@[simp] theorem beginOutput_yd2c (k : ScanKind) : (beginOutput k s).yd2c = s.yd2c := rfl
@[simp] theorem beginOutput_zp (k : ScanKind) : (beginOutput k s).zp = s.zp := rfl
@[simp] theorem beginOutput_pos (k : ScanKind) : (beginOutput k s).pos = s.pos := rfl
@[simp] theorem beginOutput_scan (k : ScanKind) : (beginOutput k s).scan = s.scan := rfl
@[simp] theorem beginOutput_result (k : ScanKind) : (beginOutput k s).result = s.result := rfl
@[simp] theorem beginOutput_inbox (k : ScanKind) : (beginOutput k s).inbox = s.inbox := rfl
@[simp] theorem beginOutput_freeCount (k : ScanKind) : (beginOutput k s).freeCount = s.freeCount := rfl

@[simp] theorem initStream_ovrClamp (bytes : List Byte) : (initStream bytes s).ovrClamp = s.ovrClamp := rfl
@[simp] theorem initStream_mmrState (bytes : List Byte) : (initStream bytes s).mmrState = .unconf := rfl
@[simp] theorem initStream_jb2Failed (bytes : List Byte) : (initStream bytes s).jb2Failed = s.jb2Failed := rfl
@[simp] theorem initStream_mmrErr (bytes : List Byte) : (initStream bytes s).mmrErr = s.mmrErr := rfl
@[simp] theorem initStream_jb2Err (bytes : List Byte) : (initStream bytes s).jb2Err = s.jb2Err := rfl
@[simp] theorem initStream_lastErr (bytes : List Byte) : (initStream bytes s).lastErr = s.lastErr := rfl
@[simp] theorem initStream_width (bytes : List Byte) : (initStream bytes s).width = 0 := rfl
@[simp] theorem initStream_height (bytes : List Byte) : (initStream bytes s).height = 0 := rfl
@[simp] theorem initStream_flags (bytes : List Byte) : (initStream bytes s).flags = 0 := rfl
@[simp] theorem initStream_rps (bytes : List Byte) : (initStream bytes s).rps = 0 := rfl
@[simp] theorem initStream_lineno (bytes : List Byte) : (initStream bytes s).lineno = 0 := rfl
@[simp] theorem initStream_striplineno (bytes : List Byte) : (initStream bytes s).striplineno = 0 := rfl
@[simp] theorem initStream_stripeno (bytes : List Byte) : (initStream bytes s).stripeno = 0 := rfl
@[simp] theorem initStream_bitpos (bytes : List Byte) : (initStream bytes s).bitpos = 0 := rfl
@[simp] theorem initStream_errrow (bytes : List Byte) : (initStream bytes s).errrow = s.errrow := rfl
@[simp] theorem initStream_errbit (bytes : List Byte) : (initStream bytes s).errbit = s.errbit := rfl
@[simp] theorem initStream_jb2Errx (bytes : List Byte) : (initStream bytes s).jb2Errx = s.jb2Errx := rfl
@[simp] theorem initStream_jb2Erry (bytes : List Byte) : (initStream bytes s).jb2Erry = s.jb2Erry := rfl
@[simp] theorem initStream_stream (bytes : List Byte) : (initStream bytes s).stream = bytes := rfl
@[simp] theorem initStream_sp (bytes : List Byte) : (initStream bytes s).sp = 0 := rfl
@[simp] theorem initStream_send (bytes : List Byte) : (initStream bytes s).send = BitVec.ofNat 33 bytes.length := rfl
@[simp] theorem initStream_sdata (bytes : List Byte) : (initStream bytes s).sdata = [] := rfl
@[simp] theorem initStream_ref (bytes : List Byte) : (initStream bytes s).ref = [] := rfl
@[simp] theorem initStream_cur (bytes : List Byte) : (initStream bytes s).cur = [] := rfl
@[simp] theorem initStream_a0 (bytes : List Byte) : (initStream bytes s).a0 = s.a0 := rfl
@[simp] theorem initStream_b1 (bytes : List Byte) : (initStream bytes s).b1 = s.b1 := rfl
@[simp] theorem initStream_pr (bytes : List Byte) : (initStream bytes s).pr = s.pr := rfl
@[simp] theorem initStream_rle (bytes : List Byte) : (initStream bytes s).rle = s.rle := rfl
@[simp] theorem initStream_color (bytes : List Byte) : (initStream bytes s).color = s.color := rfl
@[simp] theorem initStream_cwstart (bytes : List Byte) : (initStream bytes s).cwstart = s.cwstart := rfl
@[simp] theorem initStream_out (bytes : List Byte) : (initStream bytes s).out = [] := rfl
@[simp] theorem initStream_ctxd (bytes : List Byte) : (initStream bytes s).ctxd = s.ctxd := rfl
@[simp] theorem initStream_ctxx (bytes : List Byte) : (initStream bytes s).ctxx = s.ctxx := rfl
@[simp] theorem initStream_tb (bytes : List Byte) : (initStream bytes s).tb = s.tb := rfl
@[simp] theorem initStream_model (bytes : List Byte) : (initStream bytes s).model = s.model := rfl
@[simp] theorem initStream_x (bytes : List Byte) : (initStream bytes s).x = s.x := rfl
@[simp] theorem initStream_y (bytes : List Byte) : (initStream bytes s).y = s.y := rfl
@[simp] theorem initStream_ctx (bytes : List Byte) : (initStream bytes s).ctx = s.ctx := rfl
@[simp] theorem initStream_xd2c (bytes : List Byte) : (initStream bytes s).xd2c = s.xd2c := rfl
@[simp] theorem initStream_yd2c (bytes : List Byte) : (initStream bytes s).yd2c = s.yd2c := rfl
@[simp] theorem initStream_zp (bytes : List Byte) : (initStream bytes s).zp = s.zp := rfl
@[simp] theorem initStream_pos (bytes : List Byte) : (initStream bytes s).pos = s.pos := rfl
@[simp] theorem initStream_scan (bytes : List Byte) : (initStream bytes s).scan = s.scan := rfl
@[simp] theorem initStream_result (bytes : List Byte) : (initStream bytes s).result = s.result := rfl
@[simp] theorem initStream_inbox (bytes : List Byte) : (initStream bytes s).inbox = s.inbox := rfl
@[simp] theorem initStream_freeCount (bytes : List Byte) : (initStream bytes s).freeCount = s.freeCount := rfl

@[simp] theorem enterWholeData_ovrClamp : (enterWholeData s).ovrClamp = s.ovrClamp := rfl
@[simp] theorem enterWholeData_mmrState : (enterWholeData s).mmrState = s.mmrState := rfl
@[simp] theorem enterWholeData_jb2Failed : (enterWholeData s).jb2Failed = s.jb2Failed := rfl
@[simp] theorem enterWholeData_mmrErr : (enterWholeData s).mmrErr = s.mmrErr := rfl
@[simp] theorem enterWholeData_jb2Err : (enterWholeData s).jb2Err = s.jb2Err := rfl
@[simp] theorem enterWholeData_lastErr : (enterWholeData s).lastErr = s.lastErr := rfl
@[simp] theorem enterWholeData_width : (enterWholeData s).width = s.width := rfl
@[simp] theorem enterWholeData_height : (enterWholeData s).height = s.height := rfl
@[simp] theorem enterWholeData_flags : (enterWholeData s).flags = s.flags := rfl
@[simp] theorem enterWholeData_rps : (enterWholeData s).rps = s.rps := rfl
@[simp] theorem enterWholeData_lineno : (enterWholeData s).lineno = s.lineno := rfl
@[simp] theorem enterWholeData_striplineno : (enterWholeData s).striplineno = s.striplineno := rfl
@[simp] theorem enterWholeData_stripeno : (enterWholeData s).stripeno = s.stripeno := rfl
@[simp] theorem enterWholeData_bitpos : (enterWholeData s).bitpos = 0 := rfl
@[simp] theorem enterWholeData_errrow : (enterWholeData s).errrow = s.errrow := rfl
@[simp] theorem enterWholeData_errbit : (enterWholeData s).errbit = s.errbit := rfl
@[simp] theorem enterWholeData_jb2Errx : (enterWholeData s).jb2Errx = s.jb2Errx := rfl
@[simp] theorem enterWholeData_jb2Erry : (enterWholeData s).jb2Erry = s.jb2Erry := rfl
@[simp] theorem enterWholeData_stream : (enterWholeData s).stream = s.stream := rfl
@[simp] theorem enterWholeData_sp : (enterWholeData s).sp = s.sp := rfl
@[simp] theorem enterWholeData_send : (enterWholeData s).send = BitVec.ofNat 33 s.stream.length := rfl
@[simp] theorem enterWholeData_sdata : (enterWholeData s).sdata = s.stream.drop s.sp.toNat := rfl
@[simp] theorem enterWholeData_ref : (enterWholeData s).ref = s.ref := rfl
@[simp] theorem enterWholeData_cur : (enterWholeData s).cur = s.cur := rfl
@[simp] theorem enterWholeData_a0 : (enterWholeData s).a0 = s.a0 := rfl
@[simp] theorem enterWholeData_b1 : (enterWholeData s).b1 = s.b1 := rfl
@[simp] theorem enterWholeData_pr : (enterWholeData s).pr = s.pr := rfl
@[simp] theorem enterWholeData_rle : (enterWholeData s).rle = s.rle := rfl
@[simp] theorem enterWholeData_color : (enterWholeData s).color = s.color := rfl
@[simp] theorem enterWholeData_cwstart : (enterWholeData s).cwstart = s.cwstart := rfl
@[simp] theorem enterWholeData_out : (enterWholeData s).out = s.out := rfl
@[simp] theorem enterWholeData_ctxd : (enterWholeData s).ctxd = s.ctxd := rfl
@[simp] theorem enterWholeData_ctxx : (enterWholeData s).ctxx = s.ctxx := rfl
@[simp] theorem enterWholeData_tb : (enterWholeData s).tb = s.tb := rfl
@[simp] theorem enterWholeData_model : (enterWholeData s).model = s.model := rfl
@[simp] theorem enterWholeData_x : (enterWholeData s).x = s.x := rfl
@[simp] theorem enterWholeData_y : (enterWholeData s).y = s.y := rfl
@[simp] theorem enterWholeData_ctx : (enterWholeData s).ctx = s.ctx := rfl
@[simp] theorem enterWholeData_xd2c : (enterWholeData s).xd2c = s.xd2c := rfl
@[simp] theorem enterWholeData_yd2c : (enterWholeData s).yd2c = s.yd2c := rfl
@[simp] theorem enterWholeData_zp : (enterWholeData s).zp = s.zp := rfl
@[simp] theorem enterWholeData_pos : (enterWholeData s).pos = s.pos := rfl
@[simp] theorem enterWholeData_scan : (enterWholeData s).scan = s.scan := rfl
@[simp] theorem enterWholeData_result : (enterWholeData s).result = s.result := rfl
@[simp] theorem enterWholeData_inbox : (enterWholeData s).inbox = s.inbox := rfl
@[simp] theorem enterWholeData_freeCount : (enterWholeData s).freeCount = s.freeCount := rfl

@[simp] theorem waitForZp_ovrClamp : (waitForZp s).ovrClamp = s.ovrClamp := rfl
@[simp] theorem waitForZp_mmrState : (waitForZp s).mmrState = s.mmrState := rfl
@[simp] theorem waitForZp_jb2Failed : (waitForZp s).jb2Failed = s.jb2Failed := rfl
@[simp] theorem waitForZp_mmrErr : (waitForZp s).mmrErr = s.mmrErr := rfl
@[simp] theorem waitForZp_jb2Err : (waitForZp s).jb2Err = s.jb2Err := rfl
@[simp] theorem waitForZp_lastErr : (waitForZp s).lastErr = s.lastErr := rfl
@[simp] theorem waitForZp_width : (waitForZp s).width = s.width := rfl
@[simp] theorem waitForZp_height : (waitForZp s).height = s.height := rfl
@[simp] theorem waitForZp_flags : (waitForZp s).flags = s.flags := rfl
@[simp] theorem waitForZp_rps : (waitForZp s).rps = s.rps := rfl
@[simp] theorem waitForZp_lineno : (waitForZp s).lineno = s.lineno := rfl
@[simp] theorem waitForZp_striplineno : (waitForZp s).striplineno = s.striplineno := rfl
@[simp] theorem waitForZp_stripeno : (waitForZp s).stripeno = s.stripeno := rfl
@[simp] theorem waitForZp_bitpos : (waitForZp s).bitpos = s.bitpos := rfl
@[simp] theorem waitForZp_errrow : (waitForZp s).errrow = s.errrow := rfl
@[simp] theorem waitForZp_errbit : (waitForZp s).errbit = s.errbit := rfl
@[simp] theorem waitForZp_jb2Errx : (waitForZp s).jb2Errx = s.jb2Errx := rfl
@[simp] theorem waitForZp_jb2Erry : (waitForZp s).jb2Erry = s.jb2Erry := rfl
@[simp] theorem waitForZp_stream : (waitForZp s).stream = s.stream := rfl
@[simp] theorem waitForZp_sp : (waitForZp s).sp = s.sp := rfl
@[simp] theorem waitForZp_send : (waitForZp s).send = s.send := rfl
@[simp] theorem waitForZp_sdata : (waitForZp s).sdata = s.sdata := rfl
@[simp] theorem waitForZp_ref : (waitForZp s).ref = s.ref := rfl
@[simp] theorem waitForZp_cur : (waitForZp s).cur = s.cur := rfl
@[simp] theorem waitForZp_a0 : (waitForZp s).a0 = s.a0 := rfl
@[simp] theorem waitForZp_b1 : (waitForZp s).b1 = s.b1 := rfl
@[simp] theorem waitForZp_pr : (waitForZp s).pr = s.pr := rfl
@[simp] theorem waitForZp_rle : (waitForZp s).rle = s.rle := rfl
@[simp] theorem waitForZp_color : (waitForZp s).color = s.color := rfl
@[simp] theorem waitForZp_cwstart : (waitForZp s).cwstart = s.cwstart := rfl
@[simp] theorem waitForZp_out : (waitForZp s).out = s.out := rfl
@[simp] theorem waitForZp_ctxd : (waitForZp s).ctxd = s.ctxd := rfl
@[simp] theorem waitForZp_ctxx : (waitForZp s).ctxx = s.ctxx := rfl
@[simp] theorem waitForZp_tb : (waitForZp s).tb = s.tb := rfl
@[simp] theorem waitForZp_model : (waitForZp s).model = s.model := rfl
@[simp] theorem waitForZp_x : (waitForZp s).x = s.x := rfl
@[simp] theorem waitForZp_y : (waitForZp s).y = s.y := rfl
@[simp] theorem waitForZp_ctx : (waitForZp s).ctx = s.ctx := rfl
@[simp] theorem waitForZp_xd2c : (waitForZp s).xd2c = s.xd2c := rfl
@[simp] theorem waitForZp_yd2c : (waitForZp s).yd2c = s.yd2c := rfl
@[simp] theorem waitForZp_zp : (waitForZp s).zp = s.zp := rfl
@[simp] theorem waitForZp_pos : (waitForZp s).pos = .zpWait := rfl
@[simp] theorem waitForZp_scan : (waitForZp s).scan = s.scan := rfl
@[simp] theorem waitForZp_result : (waitForZp s).result = none := rfl
@[simp] theorem waitForZp_inbox : (waitForZp s).inbox = s.inbox := rfl
@[simp] theorem waitForZp_freeCount : (waitForZp s).freeCount = s.freeCount := rfl

@[simp] theorem holdModel_ovrClamp (dw dh : Word) (mb : Bitmap) (box : Box) : (holdModel dw dh mb box s).ovrClamp = s.ovrClamp := rfl
@[simp] theorem holdModel_mmrState (dw dh : Word) (mb : Bitmap) (box : Box) : (holdModel dw dh mb box s).mmrState = s.mmrState := rfl
@[simp] theorem holdModel_jb2Failed (dw dh : Word) (mb : Bitmap) (box : Box) : (holdModel dw dh mb box s).jb2Failed = s.jb2Failed := rfl
@[simp] theorem holdModel_mmrErr (dw dh : Word) (mb : Bitmap) (box : Box) : (holdModel dw dh mb box s).mmrErr = s.mmrErr := rfl
@[simp] theorem holdModel_jb2Err (dw dh : Word) (mb : Bitmap) (box : Box) : (holdModel dw dh mb box s).jb2Err = s.jb2Err := rfl
@[simp] theorem holdModel_lastErr (dw dh : Word) (mb : Bitmap) (box : Box) : (holdModel dw dh mb box s).lastErr = s.lastErr := rfl
@[simp] theorem holdModel_width (dw dh : Word) (mb : Bitmap) (box : Box) : (holdModel dw dh mb box s).width = s.width := rfl
@[simp] theorem holdModel_height (dw dh : Word) (mb : Bitmap) (box : Box) : (holdModel dw dh mb box s).height = s.height := rfl
@[simp] theorem holdModel_flags (dw dh : Word) (mb : Bitmap) (box : Box) : (holdModel dw dh mb box s).flags = s.flags := rfl
@[simp] theorem holdModel_rps (dw dh : Word) (mb : Bitmap) (box : Box) : (holdModel dw dh mb box s).rps = s.rps := rfl
@[simp] theorem holdModel_lineno (dw dh : Word) (mb : Bitmap) (box : Box) : (holdModel dw dh mb box s).lineno = s.lineno := rfl
@[simp] theorem holdModel_striplineno (dw dh : Word) (mb : Bitmap) (box : Box) : (holdModel dw dh mb box s).striplineno = s.striplineno := rfl
@[simp] theorem holdModel_stripeno (dw dh : Word) (mb : Bitmap) (box : Box) : (holdModel dw dh mb box s).stripeno = s.stripeno := rfl
@[simp] theorem holdModel_bitpos (dw dh : Word) (mb : Bitmap) (box : Box) : (holdModel dw dh mb box s).bitpos = s.bitpos := rfl
@[simp] theorem holdModel_errrow (dw dh : Word) (mb : Bitmap) (box : Box) : (holdModel dw dh mb box s).errrow = s.errrow := rfl
@[simp] theorem holdModel_errbit (dw dh : Word) (mb : Bitmap) (box : Box) : (holdModel dw dh mb box s).errbit = s.errbit := rfl
@[simp] theorem holdModel_jb2Errx (dw dh : Word) (mb : Bitmap) (box : Box) : (holdModel dw dh mb box s).jb2Errx = s.jb2Errx := rfl
@[simp] theorem holdModel_jb2Erry (dw dh : Word) (mb : Bitmap) (box : Box) : (holdModel dw dh mb box s).jb2Erry = s.jb2Erry := rfl
@[simp] theorem holdModel_stream (dw dh : Word) (mb : Bitmap) (box : Box) : (holdModel dw dh mb box s).stream = s.stream := rfl
@[simp] theorem holdModel_sp (dw dh : Word) (mb : Bitmap) (box : Box) : (holdModel dw dh mb box s).sp = s.sp := rfl
@[simp] theorem holdModel_send (dw dh : Word) (mb : Bitmap) (box : Box) : (holdModel dw dh mb box s).send = s.send := rfl
@[simp] theorem holdModel_sdata (dw dh : Word) (mb : Bitmap) (box : Box) : (holdModel dw dh mb box s).sdata = s.sdata := rfl
@[simp] theorem holdModel_ref (dw dh : Word) (mb : Bitmap) (box : Box) : (holdModel dw dh mb box s).ref = s.ref := rfl
@[simp] theorem holdModel_cur (dw dh : Word) (mb : Bitmap) (box : Box) : (holdModel dw dh mb box s).cur = s.cur := rfl
@[simp] theorem holdModel_a0 (dw dh : Word) (mb : Bitmap) (box : Box) : (holdModel dw dh mb box s).a0 = s.a0 := rfl
@[simp] theorem holdModel_b1 (dw dh : Word) (mb : Bitmap) (box : Box) : (holdModel dw dh mb box s).b1 = s.b1 := rfl
@[simp] theorem holdModel_pr (dw dh : Word) (mb : Bitmap) (box : Box) : (holdModel dw dh mb box s).pr = s.pr := rfl
@[simp] theorem holdModel_rle (dw dh : Word) (mb : Bitmap) (box : Box) : (holdModel dw dh mb box s).rle = s.rle := rfl
@[simp] theorem holdModel_color (dw dh : Word) (mb : Bitmap) (box : Box) : (holdModel dw dh mb box s).color = s.color := rfl
@[simp] theorem holdModel_cwstart (dw dh : Word) (mb : Bitmap) (box : Box) : (holdModel dw dh mb box s).cwstart = s.cwstart := rfl
@[simp] theorem holdModel_out (dw dh : Word) (mb : Bitmap) (box : Box) : (holdModel dw dh mb box s).out = s.out := rfl
@[simp] theorem holdModel_ctxd (dw dh : Word) (mb : Bitmap) (box : Box) : (holdModel dw dh mb box s).ctxd = s.ctxd := rfl
@[simp] theorem holdModel_ctxx (dw dh : Word) (mb : Bitmap) (box : Box) : (holdModel dw dh mb box s).ctxx = s.ctxx := rfl
@[simp] theorem holdModel_tb (dw dh : Word) (mb : Bitmap) (box : Box) : (holdModel dw dh mb box s).tb = s.tb := rfl
@[simp] theorem holdModel_model (dw dh : Word) (mb : Bitmap) (box : Box) : (holdModel dw dh mb box s).model = some ⟨mb, box⟩ := rfl
@[simp] theorem holdModel_x (dw dh : Word) (mb : Bitmap) (box : Box) : (holdModel dw dh mb box s).x = s.x := rfl
@[simp] theorem holdModel_y (dw dh : Word) (mb : Bitmap) (box : Box) : (holdModel dw dh mb box s).y = s.y := rfl
@[simp] theorem holdModel_ctx (dw dh : Word) (mb : Bitmap) (box : Box) : (holdModel dw dh mb box s).ctx = s.ctx := rfl
@[simp] theorem holdModel_xd2c (dw dh : Word) (mb : Bitmap) (box : Box) : (holdModel dw dh mb box s).xd2c = alignOffset dw box.left box.right := rfl
@[simp] theorem holdModel_yd2c (dw dh : Word) (mb : Bitmap) (box : Box) : (holdModel dw dh mb box s).yd2c = alignOffset dh box.bottom box.top := rfl
@[simp] theorem holdModel_zp (dw dh : Word) (mb : Bitmap) (box : Box) : (holdModel dw dh mb box s).zp = s.zp := rfl
@[simp] theorem holdModel_pos (dw dh : Word) (mb : Bitmap) (box : Box) : (holdModel dw dh mb box s).pos = s.pos := rfl
@[simp] theorem holdModel_scan (dw dh : Word) (mb : Bitmap) (box : Box) : (holdModel dw dh mb box s).scan = s.scan := rfl
@[simp] theorem holdModel_result (dw dh : Word) (mb : Bitmap) (box : Box) : (holdModel dw dh mb box s).result = s.result := rfl
@[simp] theorem holdModel_inbox (dw dh : Word) (mb : Bitmap) (box : Box) : (holdModel dw dh mb box s).inbox = s.inbox := rfl
@[simp] theorem holdModel_freeCount (dw dh : Word) (mb : Bitmap) (box : Box) : (holdModel dw dh mb box s).freeCount = s.freeCount := rfl

@[simp] theorem whiteReference_ovrClamp : (whiteReference s).ovrClamp = s.ovrClamp := rfl
@[simp] theorem whiteReference_mmrState : (whiteReference s).mmrState = s.mmrState := rfl
@[simp] theorem whiteReference_jb2Failed : (whiteReference s).jb2Failed = s.jb2Failed := rfl
@[simp] theorem whiteReference_mmrErr : (whiteReference s).mmrErr = s.mmrErr := rfl
@[simp] theorem whiteReference_jb2Err : (whiteReference s).jb2Err = s.jb2Err := rfl
@[simp] theorem whiteReference_lastErr : (whiteReference s).lastErr = s.lastErr := rfl
@[simp] theorem whiteReference_width : (whiteReference s).width = s.width := rfl
@[simp] theorem whiteReference_height : (whiteReference s).height = s.height := rfl
@[simp] theorem whiteReference_flags : (whiteReference s).flags = s.flags := rfl
@[simp] theorem whiteReference_rps : (whiteReference s).rps = s.rps := rfl
@[simp] theorem whiteReference_lineno : (whiteReference s).lineno = s.lineno := rfl
@[simp] theorem whiteReference_striplineno : (whiteReference s).striplineno = s.striplineno := rfl
@[simp] theorem whiteReference_stripeno : (whiteReference s).stripeno = s.stripeno := rfl
@[simp] theorem whiteReference_bitpos : (whiteReference s).bitpos = s.bitpos := rfl
@[simp] theorem whiteReference_errrow : (whiteReference s).errrow = s.errrow := rfl
@[simp] theorem whiteReference_errbit : (whiteReference s).errbit = s.errbit := rfl
@[simp] theorem whiteReference_jb2Errx : (whiteReference s).jb2Errx = s.jb2Errx := rfl
@[simp] theorem whiteReference_jb2Erry : (whiteReference s).jb2Erry = s.jb2Erry := rfl
@[simp] theorem whiteReference_stream : (whiteReference s).stream = s.stream := rfl
@[simp] theorem whiteReference_sp : (whiteReference s).sp = s.sp := rfl
@[simp] theorem whiteReference_send : (whiteReference s).send = s.send := rfl
@[simp] theorem whiteReference_sdata : (whiteReference s).sdata = s.sdata := rfl
@[simp] theorem whiteReference_ref : (whiteReference s).ref = [s.width.toNat] := rfl
@[simp] theorem whiteReference_cur : (whiteReference s).cur = s.cur := rfl
@[simp] theorem whiteReference_a0 : (whiteReference s).a0 = s.a0 := rfl
@[simp] theorem whiteReference_b1 : (whiteReference s).b1 = s.b1 := rfl
@[simp] theorem whiteReference_pr : (whiteReference s).pr = s.pr := rfl
@[simp] theorem whiteReference_rle : (whiteReference s).rle = s.rle := rfl
@[simp] theorem whiteReference_color : (whiteReference s).color = s.color := rfl
@[simp] theorem whiteReference_cwstart : (whiteReference s).cwstart = s.cwstart := rfl
@[simp] theorem whiteReference_out : (whiteReference s).out = s.out := rfl
@[simp] theorem whiteReference_ctxd : (whiteReference s).ctxd = s.ctxd := rfl
@[simp] theorem whiteReference_ctxx : (whiteReference s).ctxx = s.ctxx := rfl
@[simp] theorem whiteReference_tb : (whiteReference s).tb = s.tb := rfl
@[simp] theorem whiteReference_model : (whiteReference s).model = s.model := rfl
@[simp] theorem whiteReference_x : (whiteReference s).x = s.x := rfl
@[simp] theorem whiteReference_y : (whiteReference s).y = s.y := rfl
@[simp] theorem whiteReference_ctx : (whiteReference s).ctx = s.ctx := rfl
@[simp] theorem whiteReference_xd2c : (whiteReference s).xd2c = s.xd2c := rfl
@[simp] theorem whiteReference_yd2c : (whiteReference s).yd2c = s.yd2c := rfl
@[simp] theorem whiteReference_zp : (whiteReference s).zp = s.zp := rfl
@[simp] theorem whiteReference_pos : (whiteReference s).pos = s.pos := rfl
@[simp] theorem whiteReference_scan : (whiteReference s).scan = s.scan := rfl
@[simp] theorem whiteReference_result : (whiteReference s).result = s.result := rfl
@[simp] theorem whiteReference_inbox : (whiteReference s).inbox = s.inbox := rfl
@[simp] theorem whiteReference_freeCount : (whiteReference s).freeCount = s.freeCount := rfl

end Sys2Proof.Machine
end

