-- ==== Sys2Proof/Laws/Ops.lean ====
section
/-! SUPPORT. What each shared operation can do, said once: the error entries, the byte source, the bit source, the run buffers, the row
end, the bitmaps and the context cells. A later proof cites these and does not unfold the operation.
-/
namespace Sys2Proof.Machine

/-! ## Errors -/

@[simp] theorem finishMmr_ok (s : State) : finishMmr (.ok s) = .next s := rfl

@[simp] theorem finishMmr_error (r : Raised) : finishMmr (.error r) = .next (mmrErrorEntry r.err r.bit r.state) := rfl

@[simp] theorem raiseAt_eq {α : Type} (e : ErrCode) (bit : BitVec 35) (s : State) :
    (raiseAt e bit s : Try α) = .error ⟨e, bit, s⟩ := rfl

/-- The sequencing of operations: a value goes on. -/
@[simp] theorem try_ok_bind {α β : Type} (a : α) (f : α → Try β) : ((.ok a : Try α) >>= f) = f a := rfl

/-- The sequencing of operations: the first error ends it. -/
@[simp] theorem try_error_bind {α β : Type} (r : Raised) (f : α → Try β) : ((.error r : Try α) >>= f) = .error r := rfl

@[simp] theorem try_pure {α : Type} (a : α) : (pure a : Try α) = .ok a := rfl

/-- A sequence answers a value only if its first part does and the rest answers it from there. -/
theorem try_bind_eq_ok {α β : Type} {x : Try α} {f : α → Try β} {b : β} :
    (x >>= f) = .ok b ↔ ∃ a, x = .ok a ∧ f a = .ok b := by
  cases x <;> simp

/-- What the MMR error entry leaves: the code and the position registers written, FAILED, and everything else that can still be seen as
at the raise point (spec 60_exceptions.md R309, R320). -/
theorem mmrErrorEntry_spec (e : ErrCode) (bit : BitVec 35) (s : State) : MmrFailed e bit s (mmrErrorEntry e bit s) := by
  simp [MmrFailed, SameJb2, mmrErrorEntry]

/-- The same with the raise point described by another state that agrees with it on what is left. -/
theorem mmrFailed_congr {e : ErrCode} {bit : BitVec 35} {r s t : State} (h : MmrFailed e bit r t)
    (hb : r.bitpos = s.bitpos) (hl : r.lineno = s.lineno) (hs : r.striplineno = s.striplineno)
    (hn : r.stripeno = s.stripeno) (hw : r.width = s.width) (hh : r.height = s.height) (hf : r.flags = s.flags)
    (hr : r.rps = s.rps) (href : r.ref = s.ref) (hst : r.stream = s.stream) (hsp : r.sp = s.sp) (hse : r.send = s.send)
    (hd : r.sdata = s.sdata) (ho : r.ovrClamp = s.ovrClamp) (hi : r.inbox = s.inbox) (hj : SameJb2 s r) :
    MmrFailed e bit s t := by
  simp only [MmrFailed, SameJb2] at *
  simp_all

/-- What the JB2 error entry leaves (spec 60_exceptions.md R310). -/
theorem jb2ErrorEntry_spec (e : ErrCode) (s : State) :
    let t := jb2ErrorEntry e s
    t.jb2Failed = true ∧ t.jb2Err = e ∧ t.jb2Errx = BitVec.ofInt 32 s.x ∧ t.jb2Erry = BitVec.ofInt 32 s.y ∧
      t.lastErr = e ∧ t.result = some (.err e) ∧ t.pos = .idle ∧ t.model = none ∧ t.tb.w = s.tb.w ∧ t.tb.h = s.tb.h ∧
      t.tb.px.length = s.tb.px.length ∧ t.ctxd = s.ctxd ∧ t.ctxx = s.ctxx ∧ t.zp = s.zp ∧ t.ovrClamp = s.ovrClamp ∧
      t.inbox = s.inbox ∧ SameMmr s t := by
  simp [SameMmr, jb2ErrorEntry, State.freeTb]

/-! ## The byte source -/

/-- A byte of S at SP is read and SP moves past it (spec 20_memory.md R61). -/
theorem readByte_ok {s : State} {b : Byte} {l : List Byte} (h : s.stream.drop s.sp.toNat = b :: l) :
    readByte s = .ok (b, { s with sp := s.sp + 1 }) := by
  have : s.stream[s.sp.toNat]? = some b := by
    rw [← List.head?_drop, h]
    rfl
  simp [readByte, this]

/-- At the end of S the byte source raises with bit = 8 * SP (spec 42_mmr_commands.md R211). -/
theorem readByte_end {s : State} (h : s.stream.drop s.sp.toNat = []) :
    readByte s = .error ⟨.unexpectedEndOfStream, BitVec.ofNat 35 (8 * s.sp.toNat), s⟩ := by
  have : s.stream[s.sp.toNat]? = none := by
    rw [← List.head?_drop, h]
    rfl
  simp [readByte, this]

/-- Where the rest of S stands after one byte. -/
theorem drop_after_byte {s : State} {b : Byte} {l : List Byte} (h : s.stream.drop s.sp.toNat = b :: l)
    (hl : s.stream.length < 4294967296) : s.stream.drop (s.sp + 1).toNat = l := by
  have hlt : s.sp.toNat < s.stream.length := by
    have := congrArg List.length h
    simp at this
    omega
  have : (s.sp + 1).toNat = s.sp.toNat + 1 := by
    simp [BitVec.toNat_add]
    omega
  rw [this, ← List.drop_drop, h]
  rfl

/-- `Read16()` where S holds two bytes more (spec 20_memory.md R62). -/
theorem read16_ok {s : State} {b0 b1 : Byte} {l : List Byte} (h : s.stream.drop s.sp.toNat = b0 :: b1 :: l)
    (hl : s.stream.length < 4294967296) : read16 s = .ok (b0 ++ b1, { s with sp := s.sp + 2 }) := by
  have h1 := drop_after_byte h hl
  simp only [read16, readByte_ok h, try_ok_bind]
  rw [readByte_ok (s := { s with sp := s.sp + 1 }) h1]
  simp [BitVec.add_assoc]

/-- `Read32()` where S holds four bytes more (spec 20_memory.md R62). -/
theorem read32_ok {s : State} {b0 b1 b2 b3 : Byte} {l : List Byte}
    (h : s.stream.drop s.sp.toNat = b0 :: b1 :: b2 :: b3 :: l) (hl : s.stream.length < 4294967296) :
    read32 s = .ok (b0 ++ b1 ++ b2 ++ b3, { s with sp := s.sp + 4 }) := by
  have h1 := drop_after_byte h hl
  have h2 := drop_after_byte (s := { s with sp := s.sp + 1 }) h1 hl
  have h3 := drop_after_byte (s := { s with sp := s.sp + 1 + 1 }) h2 hl
  simp only [read32, readByte_ok h, try_ok_bind]
  rw [readByte_ok (s := { s with sp := s.sp + 1 }) h1]
  simp only [try_ok_bind]
  rw [readByte_ok (s := { s with sp := s.sp + 1 + 1 }) h2]
  simp only [try_ok_bind]
  rw [readByte_ok (s := { s with sp := s.sp + 1 + 1 + 1 }) h3]
  simp [BitVec.add_assoc]

/-- The rest of S at its end. -/
theorem drop_at_end {s : State} (h : s.stream.length ≤ s.sp.toNat) : s.stream.drop s.sp.toNat = [] :=
  List.drop_eq_nil_of_le h

/-- SP after one byte that is there. -/
theorem sp_add_one {s : State} (h : s.sp.toNat < s.stream.length) (hl : s.stream.length < 4294967296) :
    (s.sp + 1).toNat = s.sp.toNat + 1 := by
  simp [BitVec.toNat_add]
  omega

/-- One byte that is there. -/
theorem readByte_lt {s : State} (h : s.sp.toNat < s.stream.length) :
    readByte s = .ok (s.stream[s.sp.toNat], { s with sp := s.sp + 1 }) :=
  readByte_ok (List.drop_eq_getElem_cons h)

/-- The byte source at the end of S, in terms of the length of S. -/
theorem readByte_ended {s : State} (h : s.sp.toNat = s.stream.length) :
    readByte s = .error ⟨.unexpectedEndOfStream, BitVec.ofNat 35 (8 * s.stream.length), s⟩ := by
  rw [readByte_end (drop_at_end (by omega)), h]

/-- `Read16()` where S ends too soon: SP stands at the end of S (spec 42_mmr_commands.md R211). -/
theorem read16_short {s : State} (h : s.sp.toNat ≤ s.stream.length) (h2 : s.stream.length < s.sp.toNat + 2)
    (hl : s.stream.length < 4294967296) :
    read16 s = .error ⟨.unexpectedEndOfStream, BitVec.ofNat 35 (8 * s.stream.length),
      { s with sp := BitVec.ofNat 32 s.stream.length }⟩ := by
  by_cases h0 : s.sp.toNat = s.stream.length
  · simp [read16, readByte_ended h0, ← h0]
  · have hs := sp_add_one (s := s) (by omega) hl
    have he : s.sp + 1 = BitVec.ofNat 32 s.stream.length := by
      apply BitVec.eq_of_toNat_eq
      simp only [hs, BitVec.toNat_ofNat]
      omega
    simp only [read16, readByte_lt (s := s) (by omega), try_ok_bind]
    rw [readByte_ended (s := { s with sp := s.sp + 1 }) (by simp only [hs]; omega)]
    simpa using he

/-- `Read32()` where S ends too soon: SP stands at the end of S (spec 42_mmr_commands.md R211). -/
theorem read32_short {s : State} (h : s.sp.toNat ≤ s.stream.length) (h4 : s.stream.length < s.sp.toNat + 4)
    (hl : s.stream.length < 4294967296) :
    read32 s = .error ⟨.unexpectedEndOfStream, BitVec.ofNat 35 (8 * s.stream.length),
      { s with sp := BitVec.ofNat 32 s.stream.length }⟩ := by
  have hsp : ∀ n, s.sp.toNat + n = s.stream.length → s.sp + BitVec.ofNat 32 n = BitVec.ofNat 32 s.stream.length := by
    intro n hn
    apply BitVec.eq_of_toNat_eq
    simp only [BitVec.toNat_add, BitVec.toNat_ofNat]
    omega
  by_cases h0 : s.sp.toNat = s.stream.length
  · simp [read32, readByte_ended h0, ← h0]
  have hs := sp_add_one (s := s) (by omega) hl
  simp only [read32, readByte_lt (s := s) (by omega), try_ok_bind]
  by_cases h1 : s.sp.toNat + 1 = s.stream.length
  · rw [readByte_ended (s := { s with sp := s.sp + 1 }) (by simp only [hs]; omega)]
    simpa using hsp 1 h1
  have hs2 := sp_add_one (s := { s with sp := s.sp + 1 }) (by simp only [hs]; omega) hl
  simp only [hs] at hs2
  simp only [readByte_lt (s := { s with sp := s.sp + 1 }) (by simp only [hs]; omega), try_ok_bind]
  by_cases h2 : s.sp.toNat + 2 = s.stream.length
  · rw [readByte_ended (s := { s with sp := s.sp + 1 + 1 }) (by simp only [hs2]; omega)]
    simpa [BitVec.add_assoc] using hsp 2 h2
  have hs3 := sp_add_one (s := { s with sp := s.sp + 1 + 1 }) (by simp only [hs2]; omega) hl
  simp only [hs2] at hs3
  simp only [readByte_lt (s := { s with sp := s.sp + 1 + 1 }) (by simp only [hs2]; omega), try_ok_bind]
  rw [readByte_ended (s := { s with sp := s.sp + 1 + 1 + 1 }) (by simp only [hs3]; omega)]
  simpa [BitVec.add_assoc] using hsp 3 (by omega)

/-- The bytes of a big-endian 16-bit field make the field. -/
theorem be16_join (v : BitVec 16) : v.extractLsb' 8 8 ++ v.extractLsb' 0 8 = v := by
  ext i
  simp
  grind

/-- The bytes of a big-endian 32-bit field make the field. -/
theorem be32_join (v : BitVec 32) :
    v.extractLsb' 24 8 ++ v.extractLsb' 16 8 ++ v.extractLsb' 8 8 ++ v.extractLsb' 0 8 = v := by
  ext i
  simp
  grind

/-- `Read16()` of a big-endian field (spec 20_memory.md R62). -/
theorem read16_field {s : State} {v : BitVec 16} {l : List Byte} (h : s.stream.drop s.sp.toNat = be16 v ++ l)
    (hl : s.stream.length < 4294967296) : read16 s = .ok (v, { s with sp := s.sp + 2 }) := by
  rw [read16_ok h hl, be16_join]

/-- `Read32()` of a big-endian field (spec 20_memory.md R62). -/
theorem read32_field {s : State} {v : BitVec 32} {l : List Byte} (h : s.stream.drop s.sp.toNat = be32 v ++ l)
    (hl : s.stream.length < 4294967296) : read32 s = .ok (v, { s with sp := s.sp + 4 }) := by
  rw [read32_ok h hl, be32_join]

/-- A stripe is entered: its length is read and its data end at the declared length or at the end of S (spec 20_memory.md R68). -/
theorem readStripe_ok {s : State} {len : BitVec 32} {l : List Byte} (h : s.stream.drop s.sp.toNat = be32 len ++ l)
    (hl : s.stream.length < 4294967296) :
    readStripe s = .ok { s with
      sp := BitVec.ofNat 32 (s.sp.toNat + 4)
      sdata := l.take len.toNat
      send := BitVec.ofNat 33 (s.sp.toNat + 4 + len.toNat)
      bitpos := 0 } := by
  have hlen := congrArg List.length h
  simp [be32] at hlen
  have hs : (s.sp + 4).toNat = s.sp.toNat + 4 := by
    simp [BitVec.toNat_add]
    omega
  have he : s.sp + 4 = BitVec.ofNat 32 (s.sp.toNat + 4) := by
    apply BitVec.eq_of_toNat_eq
    simp only [hs, BitVec.toNat_ofNat]
    omega
  have hd : s.stream.drop (s.sp.toNat + 4) = l := by
    rw [← List.drop_drop, h]
    rfl
  have hsend : (s.sp + 4).setWidth 33 + len.setWidth 33 = BitVec.ofNat 33 (s.sp.toNat + 4 + len.toNat) := by
    apply BitVec.eq_of_toNat_eq
    have := len.isLt
    simp only [BitVec.toNat_add, BitVec.toNat_setWidth, hs, BitVec.toNat_ofNat]
    omega
  simp only [readStripe, read32_field h hl, try_ok_bind, try_pure, streamWindow, hsend, hs, hd]
  simpa using he

/-- A stripe whose length is cut short (spec 20_memory.md R68, 42_mmr_commands.md R211). -/
theorem readStripe_short {s : State} (h : s.sp.toNat ≤ s.stream.length) (h4 : s.stream.length < s.sp.toNat + 4)
    (hl : s.stream.length < 4294967296) :
    readStripe s = .error ⟨.unexpectedEndOfStream, BitVec.ofNat 35 (8 * s.stream.length),
      { s with sp := BitVec.ofNat 32 s.stream.length }⟩ := by
  simp [readStripe, read32_short h h4 hl]

/-- `NextStripe()` where the next stripe's length is in S (spec 20_memory.md R69). -/
theorem nextStripe_ok {s : State} {len : BitVec 32} {l : List Byte} (hs : s.send.toNat ≤ s.stream.length)
    (h : s.stream.drop s.send.toNat = be32 len ++ l) (hl : s.stream.length < 4294967296) :
    nextStripe s = .ok { s with
      sp := BitVec.ofNat 32 (s.send.toNat + 4)
      sdata := l.take len.toNat
      send := BitVec.ofNat 33 (s.send.toNat + 4 + len.toNat)
      bitpos := 0
      stripeno := s.stripeno + 1 } := by
  have hsp : (s.send.setWidth 32).toNat = s.send.toNat := by
    simp only [BitVec.toNat_setWidth]
    omega
  have hr := readStripe_ok (s := { s with sp := s.send.setWidth 32 }) (len := len) (l := l) (by simpa only [hsp] using h) hl
  simp only [nextStripe, if_neg (Nat.not_lt.mpr hs), hr, hsp, try_ok_bind, try_pure]

/-- `NextStripe()` where the finished stripe's declared end lies past the end of S (spec 20_memory.md R69). -/
theorem nextStripe_past {s : State} (hs : s.stream.length < s.send.toNat) :
    nextStripe s = .error ⟨.unexpectedEndOfStream, s.bitpos, s⟩ := by
  simp [nextStripe, hs]

/-- `NextStripe()` where S ends inside the next stripe's length (spec 20_memory.md R69). -/
theorem nextStripe_short {s : State} (hs : s.send.toNat ≤ s.stream.length) (h4 : s.stream.length < s.send.toNat + 4)
    (hl : s.stream.length < 4294967296) :
    nextStripe s = .error ⟨.unexpectedEndOfStream, BitVec.ofNat 35 (8 * s.stream.length),
      { s with sp := BitVec.ofNat 32 s.stream.length }⟩ := by
  have hsp : (s.send.setWidth 32).toNat = s.send.toNat := by
    simp only [BitVec.toNat_setWidth]
    omega
  simp only [nextStripe, if_neg (Nat.not_lt.mpr hs)]
  rw [readStripe_short (s := { s with sp := s.send.setWidth 32 }) (by simpa only [hsp] using hs)
    (by simpa only [hsp] using h4) hl]
  rfl

/-! ## The bit source -/

/-- The data hold n bits more: BITPOS moves past them (spec 20_memory.md R65). -/
theorem shift_ok {n : Nat} {s : State} (h : HasBits s n) : shift n s = .ok { s with bitpos := s.after n } := by
  simp [shift, Nat.not_lt.mpr h]

/-- The data end within n bits: nothing is consumed (spec 20_memory.md R65). -/
theorem shift_end {n : Nat} {s : State} (h : ¬ HasBits s n) :
    shift n s = .error ⟨.unexpectedEndOfStream, s.bitpos, s⟩ := by
  simp [shift, Nat.not_le.mp h]

/-- A codeword that the data hold is consumed (spec 30_encoding.md R102). -/
theorem takeCodeword_ok {n : Nat} {s : State} (h : HasBits s n) :
    takeCodeword n s = .ok { s with cwstart := s.bitpos, bitpos := s.after n } :=
  shift_ok (s := s.mark) h

/-- A codeword cut short raises at its own start (spec 20_memory.md R65). -/
theorem takeCodeword_end {n : Nat} {s : State} (h : ¬ HasBits s n) :
    takeCodeword n s = .error ⟨.unexpectedEndOfStream, s.bitpos, s.mark⟩ :=
  shift_end (s := s.mark) h

/-- If a codeword is consumed, the data held it. -/
theorem takeCodeword_eq_ok {n : Nat} {s t : State} (h : takeCodeword n s = .ok t) :
    HasBits s n ∧ t = { s with cwstart := s.bitpos, bitpos := s.after n } := by
  by_cases hb : HasBits s n
  · rw [takeCodeword_ok hb] at h
    exact ⟨hb, by injection h with h; exact h.symm⟩
  · rw [takeCodeword_end hb] at h
    cases h

/-- BITPOS after n bits that the data hold, without wrapping (spec 10_state.md R25). -/
theorem after_toNat {s : State} {n : Nat} (hc : CursorOk s) (h : HasBits s n) : (s.after n).toNat = s.bitpos.toNat + n := by
  have h2 := hc.2.1
  simp only [HasBits, State.sbits] at h
  simp only [State.after, BitVec.toNat_add, BitVec.toNat_ofNat]
  omega

theorem streamBit_le_one (data : List Byte) (k : Nat) : streamBit data k ≤ 1 := by
  unfold streamBit
  split
  · exact Bool.toNat_le _
  · exact Nat.zero_le 1

/-- Bits past the end of the data read 0 (spec 20_memory.md R64). -/
theorem streamBit_past {data : List Byte} {k : Nat} (h : 8 * data.length ≤ k) : streamBit data k = 0 := by
  simp [streamBit, Nat.not_lt.mpr h]

theorem peekFrom_lt (data : List Byte) (k n : Nat) : peekFrom data k n < 2 ^ n := by
  induction n with
  | zero => simp [peekFrom]
  | succ n ih =>
    have := streamBit_le_one data (k + n)
    simp only [peekFrom, Nat.pow_succ]
    omega

/-- The first n bits of a longer peek are the shorter peek (spec 20_memory.md R64). -/
theorem peekFrom_shift (data : List Byte) (k n m : Nat) : peekFrom data k (n + m) / 2 ^ m = peekFrom data k n := by
  induction m with
  | zero => simp
  | succ m ih =>
    have := streamBit_le_one data (k + (n + m))
    rw [Nat.pow_succ', ← Nat.div_div_eq_div_mul, ← Nat.add_assoc]
    simp only [peekFrom]
    rw [show (2 * peekFrom data k (n + m) + streamBit data (k + (n + m))) / 2 = peekFrom data k (n + m) by omega, ih]

@[simp] theorem window_toNat (s : State) : s.window.toNat = peekFrom s.sdata s.bitpos.toNat 32 := by
  have := peekFrom_lt s.sdata s.bitpos.toNat 32
  simp only [State.window, Config.peekBits, BitVec.toNat_ofNat]
  omega

/-- The top n bits of the window are `Peek(n)` (spec 20_memory.md R64). -/
theorem topBits_window {n : Nat} (h : n ≤ 32) (s : State) :
    topBits n s.window = peekFrom s.sdata s.bitpos.toNat n := by
  rw [topBits, window_toNat, Config.peekBits, Nat.shiftRight_eq_div_pow]
  have := peekFrom_shift s.sdata s.bitpos.toNat n (32 - n)
  rwa [show n + (32 - n) = 32 by omega] at this

/-! ## The run buffers -/

/-- A run that is not negative joins a row that has room (spec 40_mmr_modes.md R164). -/
theorem emit_ok {v : Int} {s : State} (hv : 0 ≤ v) (hc : s.cur.length < s.width.toNat + 2) :
    emit v s = .ok { s with cur := s.cur ++ [v.toNat] } := by
  simp [emit, Config.runCap, Int.not_lt.mpr hv, Nat.not_le.mpr hc]

/-- A negative run, or a run in a full row, raises at the codeword's start (spec 40_mmr_modes.md R164). -/
theorem emit_raises {v : Int} {s : State} (h : CannotEmit s v) :
    emit v s = .error ⟨.corruptMMRStream, s.cwstart, s⟩ := by
  by_cases hv : v < 0
  · simp [emit, hv]
  · simp [emit, Config.runCap, hv, h.resolve_left hv]

/-- If a run is emitted, it was not negative and the row had room. -/
theorem emit_eq_ok {v : Int} {s t : State} (h : emit v s = .ok t) :
    0 ≤ v ∧ s.cur.length < s.width.toNat + 2 ∧ t = { s with cur := s.cur ++ [v.toNat] } := by
  by_cases hr : CannotEmit s v
  · rw [emit_raises hr] at h
    cases h
  · have hv : 0 ≤ v := by omega
    have hc : s.cur.length < s.width.toNat + 2 := by omega
    rw [emit_ok hv hc] at h
    injection h with h
    exact ⟨hv, hc, h.symm⟩

/-- The pending run is emitted and is 0 afterwards. -/
theorem emitPending_ok {s : State} (hv : 0 ≤ s.rle) (hc : s.cur.length < s.width.toNat + 2) :
    emitPending s = .ok { s with cur := s.cur ++ [s.rle.toNat], rle := 0 } := by
  simp [emitPending, emit_ok hv hc]

/-- A pending run that cannot be emitted raises at the codeword's start, and nothing is written (spec 40_mmr_modes.md R164). -/
theorem emitPending_raises {s : State} (h : CannotEmit s s.rle) :
    emitPending s = .error ⟨.corruptMMRStream, s.cwstart, s⟩ := by
  simp [emitPending, emit_raises h]

/-- If the pending run is emitted, it was not negative and the row had room. -/
theorem emitPending_eq_ok {s t : State} (h : emitPending s = .ok t) :
    0 ≤ s.rle ∧ s.cur.length < s.width.toNat + 2 ∧ t = { s with cur := s.cur ++ [s.rle.toNat], rle := 0 } := by
  obtain ⟨a, ha, hb⟩ := try_bind_eq_ok.mp h
  obtain ⟨hv, hc, rfl⟩ := emit_eq_ok ha
  exact ⟨hv, hc, by simpa using hb.symm⟩

/-! ## Resynchronisation and row end -/

/-- Induction that takes two runs at a time, as `Resync()` does. -/
theorem resyncLists {motive : List Nat → Prop} (nil : motive []) (singleton : ∀ r, motive [r])
    (pair : ∀ r r' l, motive l → motive (r :: r' :: l)) : ∀ l, motive l
  | [] => nil
  | [r] => singleton r
  | r :: r' :: l => pair r r' l (resyncLists nil singleton pair l)

/-- The loop of `Resync()` on a list of runs whose sum takes B1 to W: B1 moves by the runs passed over, PR by their number, which is
even unless the list ends (then PR passes its end by one), and B1 stops right of A0 or at W (spec 40_mmr_modes.md R165). -/
theorem resyncLoop_spec (a0 w : Int) (l : List Nat) : ∀ (b1 : Int) (pr : Nat), b1 + l.sum = w →
    ∃ n, (resyncLoop a0 w l b1 pr).2 = pr + 2 * n ∧
      (resyncLoop a0 w l b1 pr).1 = b1 + (l.take (2 * n)).sum ∧
      (a0 < (resyncLoop a0 w l b1 pr).1 ∨ (resyncLoop a0 w l b1 pr).1 = w) ∧ 2 * n ≤ l.length + 1 ∧
      ∀ j < n, b1 + (l.take (2 * j)).sum ≤ a0 := by
  induction l using resyncLists with
  | nil =>
    intro b1 pr h
    exact ⟨0, by simp_all [resyncLoop]⟩
  | singleton r =>
    intro b1 pr h
    simp only [List.sum_cons, List.sum_nil] at h
    by_cases hc : b1 ≤ a0 ∧ b1 < w
    · refine ⟨1, ?_⟩
      simp only [resyncLoop, if_pos hc]
      refine ⟨trivial, by simp, .inr (by omega), by simp, ?_⟩
      intro j hj
      obtain rfl : j = 0 := by omega
      simpa using hc.1
    · refine ⟨0, ?_⟩
      simp only [resyncLoop, if_neg hc]
      exact ⟨rfl, by simp, by omega, by simp, by omega⟩
  | pair r r' l ih =>
    intro b1 pr h
    simp only [List.sum_cons] at h
    by_cases hc : b1 ≤ a0 ∧ b1 < w
    · obtain ⟨n, h1, h2, h3, h4, h5⟩ := ih (b1 + r + r') (pr + 2) (by omega)
      refine ⟨n + 1, ?_⟩
      simp only [resyncLoop, if_pos hc]
      have htake : ∀ m, ((r :: r' :: l).take (2 * (m + 1))).sum = r + r' + (l.take (2 * m)).sum := by
        intro m
        rw [show 2 * (m + 1) = 2 * m + 1 + 1 by omega, List.take_succ_cons, List.take_succ_cons]
        simp only [List.sum_cons]
        omega
      refine ⟨by omega, by rw [h2, htake]; omega, h3, by simp only [List.length_cons]; omega, ?_⟩
      intro j hj
      cases j with
      | zero => simpa using hc.1
      | succ j =>
        have := h5 j (by omega)
        rw [htake]
        omega
    · refine ⟨0, ?_⟩
      simp only [resyncLoop, if_neg hc]
      exact ⟨rfl, by simp, by omega, by simp, by omega⟩

/-- The sum of the reference runs before an index splits at an earlier index. -/
theorem take_sum_split (l : List Nat) (p n : Nat) : (l.take (p + n)).sum = (l.take p).sum + ((l.drop p).take n).sum := by
  rw [← List.sum_append, List.take_add]

/-- A row that ends at W is committed and returned (spec 40_mmr_modes.md R166, R169; 42_mmr_commands.md R215). -/
theorem completeScan_commit (s : State) : completeScan (commit s) = rowReturned s s.cur := by
  cases hs : s.scan <;> simp only [completeScan, commit, rowReturned, rowPayload, hs] <;> rfl

/-- The row end at W with nothing pending. -/
theorem closeRow_at_width {s : State} (h : s.a0 ≤ s.width.toNat) : closeRow s = .ok (rowReturned s s.cur) := by
  simp [closeRow, Int.not_lt.mpr h, completeScan_commit]

/-- The row end past W without the clamp (spec 40_mmr_modes.md R168). -/
theorem closeRow_overshoot {s : State} (h : (s.width.toNat : Int) < s.a0) (hc : s.ovrClamp = false) :
    closeRow s = .error ⟨.corruptMMRStream, s.cwstart, s⟩ := by
  simp [closeRow, h, overshoot, hc]

/-- The row end past W with the clamp (spec 40_mmr_modes.md R168). -/
theorem closeRow_clamp {s : State} (h : (s.width.toNat : Int) < s.a0) (hc : s.ovrClamp = true) :
    closeRow s = .ok (rowReturned (clampRow s) (clampRow s).cur) := by
  simp [closeRow, h, overshoot, hc, completeScan_commit]

/-- The row goes on while A0 < W (spec 40_mmr_modes.md R152). -/
theorem rowLoop_within {s : State} (h : s.a0 < s.width.toNat) : rowLoop s = .ok { s with pos := .mode } := by
  simp [rowLoop, h]

/-- At W with a run pending the trailing-run check waits for its codeword (spec 40_mmr_modes.md R166, R167). -/
theorem rowLoop_trailing {s : State} (h : (s.width.toNat : Int) ≤ s.a0) (hr : 0 < s.rle) :
    rowLoop s = .ok { s with pos := .trailing } := by
  simp [rowLoop, rowEnd, Int.not_lt.mpr h, hr]

/-- At W with nothing pending the row ends. -/
theorem rowLoop_ends {s : State} (h : (s.width.toNat : Int) ≤ s.a0) (hr : s.rle ≤ 0) : rowLoop s = closeRow s := by
  simp [rowLoop, rowEnd, Int.not_lt.mpr h, Int.not_lt.mpr hr]

/-- The clamp's loop keeps the runs of the row up to one point and A0 at their sum; it stops at or left of W, unless every run has gone,
and right of W before the last run it drops (spec 40_mmr_modes.md R168). The runs are given last first. -/
theorem dropRuns_spec (w : Nat) (l : List Nat) : ∀ a0 : Int, a0 = l.sum → (w : Int) ≤ a0 →
    ∃ k, k ≤ l.length ∧ dropRuns w l a0 = (l.drop k, (((l.drop k).sum : Nat) : Int)) ∧ (l.drop k).sum ≤ w ∧
      ∀ j < k, w < (l.drop j).sum := by
  induction l with
  | nil =>
    intro a0 h hw
    subst h
    exact ⟨0, by simp, by simp [dropRuns], by simp, by omega⟩
  | cons r l ih =>
    intro a0 h hw
    simp only [List.sum_cons] at h
    by_cases hc : (w : Int) < a0
    · by_cases hl : (w : Int) ≤ a0 - r
      · obtain ⟨k, h1, h2, h3, h4⟩ := ih (a0 - r) (by omega) hl
        refine ⟨k + 1, by simpa using h1, by simp [dropRuns, hc, h2], by simpa using h3, ?_⟩
        intro j hj
        cases j with
        | zero => simp only [List.drop_zero, List.sum_cons]; omega
        | succ j => simpa using h4 j (by omega)
      · refine ⟨1, by simp, ?_, by simp only [List.drop_succ_cons, List.drop_zero]; omega, ?_⟩
        · have : a0 - r = (l.sum : Nat) := by omega
          cases l with
          | nil => simp [dropRuns, hc, this]
          | cons r' l' =>
            rw [dropRuns, if_pos hc, this, dropRuns, if_neg (by omega)]
            rfl
        · intro j hj
          obtain rfl : j = 0 := by omega
          simp only [List.drop_zero, List.sum_cons]
          omega
    · exact ⟨0, by simp, by rw [dropRuns, if_neg hc, h]; rfl, by simp only [List.drop_zero, List.sum_cons]; omega, by omega⟩

/-! ## Bitmaps: every operation keeps `Bitmap.wf` -/

theorem wf_iff {b : Bitmap} : b.wf = true ↔ b.px.length = b.w.toNat * b.h.toNat := by
  simp [Bitmap.wf]

theorem empty_wf : Bitmap.empty.wf = true := rfl

theorem blankBitmap_wf (w h : Word) : (blankBitmap w h).wf = true := by
  simp [wf_iff, blankBitmap]

@[simp] theorem setPix_w (b : Bitmap) (x y : Int) (v : Bool) : (setPix b x y v).w = b.w := by
  unfold setPix
  split <;> rfl

@[simp] theorem setPix_h (b : Bitmap) (x y : Int) (v : Bool) : (setPix b x y v).h = b.h := by
  unfold setPix
  split <;> rfl

@[simp] theorem setPix_length (b : Bitmap) (x y : Int) (v : Bool) : (setPix b x y v).px.length = b.px.length := by
  unfold setPix
  split <;> simp

theorem setPix_wf {b : Bitmap} (h : b.wf = true) (x y : Int) (v : Bool) : (setPix b x y v).wf = true := by
  rw [wf_iff] at *
  simpa using h

theorem freeTb_wf {s : State} (h : s.tb.wf = true) : s.freeTb.tb.wf = true := by
  rw [wf_iff] at *
  simpa [State.freeTb] using h

/-- A pixel inside the bitmap. -/
abbrev inBitmap (b : Bitmap) (x y : Int) : Prop := 0 ≤ x ∧ x < b.w.toNat ∧ 0 ≤ y ∧ y < b.h.toNat

/-- The index of a pixel inside the bitmap is inside the pixel list. -/
theorem index_lt {b : Bitmap} (h : b.wf = true) {x y : Int} (hi : inBitmap b x y) :
    y.toNat * b.w.toNat + x.toNat < b.px.length := by
  rw [wf_iff.mp h]
  have hx : x.toNat < b.w.toNat := by omega
  have hy : y.toNat + 1 ≤ b.h.toNat := by omega
  have := Nat.mul_le_mul_left b.w.toNat hy
  rw [Nat.mul_comm y.toNat]
  rw [Nat.mul_add, Nat.mul_one] at this
  omega

/-- Outside the bitmap every pixel is white (spec 20_memory.md R70). -/
theorem pix_outside {b : Bitmap} {x y : Int} (h : ¬ inBitmap b x y) : pix b x y = false := by
  simp only [pix, if_neg h]

/-- A pixel reads as it was set (spec 20_memory.md R70, R71). -/
theorem pix_setPix_same {b : Bitmap} (h : b.wf = true) {x y : Int} (hi : inBitmap b x y) (v : Bool) :
    pix (setPix b x y v) x y = v := by
  have := index_lt h hi
  simp only [pix, setPix, if_pos hi]
  simp [this]

/-- Setting a pixel leaves every other pixel alone (spec 20_memory.md R71). -/
theorem pix_setPix_other {b : Bitmap} {x y x' y' : Int} (v : Bool) (hne : ¬ (x' = x ∧ y' = y)) :
    pix (setPix b x y v) x' y' = pix b x' y' := by
  by_cases hi : inBitmap b x y
  · by_cases hi' : inBitmap b x' y'
    · have hidx : y.toNat * b.w.toNat + x.toNat ≠ y'.toNat * b.w.toNat + x'.toNat := by
        intro he
        have hx : x.toNat < b.w.toNat := by omega
        have hx' : x'.toNat < b.w.toNat := by omega
        have hm := congrArg (· % b.w.toNat) he
        have hd := congrArg (· / b.w.toNat) he
        simp only [Nat.mul_comm _ b.w.toNat, Nat.mul_add_mod, Nat.mod_eq_of_lt hx, Nat.mod_eq_of_lt hx'] at hm
        simp only [Nat.mul_comm _ b.w.toNat, Nat.mul_add_div (show 0 < b.w.toNat by omega), Nat.div_eq_of_lt hx,
          Nat.div_eq_of_lt hx'] at hd
        omega
      simp only [pix, if_pos hi', setPix, if_pos hi, List.getD_eq_getElem?_getD]
      rw [List.getElem?_set_ne hidx]
    · rw [pix_outside hi', pix_outside (by simpa [inBitmap] using hi')]
  · simp only [setPix, if_neg hi]

/-! ## Context cells -/

/-- A cell reads as the agent wrote it. -/
theorem cell_setCell_same (s : State) (bank : Bank) (idx : BitVec 11) (c : Nat) :
    (s.setCell bank idx c).cell bank idx = c := by
  cases bank
  · exact Vector.getElem_set_self (idx.setWidth 10).isLt
  · exact Vector.getElem_set_self idx.isLt

/-- A request on the direct bank leaves the cross bank alone (spec 45_jb2_cross.md R272). -/
@[simp] theorem setCell_d_ctxx (s : State) (idx : BitVec 11) (c : Nat) : (s.setCell .d idx c).ctxx = s.ctxx := rfl

/-- A request on the cross bank leaves the direct bank alone (spec 45_jb2_cross.md R272). -/
@[simp] theorem setCell_x_ctxd (s : State) (idx : BitVec 11) (c : Nat) : (s.setCell .x idx c).ctxd = s.ctxd := rfl

/-- A request that is answered: the agent's new state stands in the state, the cell that the request named may be written, and nothing
else is (spec 44_jb2_direct.md R241). -/
theorem zpAnswered_spec (bank : Bank) (z cell : Nat) (s : State) :
    zpAnswered bank z cell s =
      { s with zp := z, ctxd := (zpAnswered bank z cell s).ctxd, ctxx := (zpAnswered bank z cell s).ctxx } := by
  cases bank <;> rfl

/-- A request is answered as the oracle says, or never (spec 44_jb2_direct.md R240, 70_reset_and_hazards.md R349). -/
theorem zpRequest_eq_some {zp : Zp} {bank : Bank} {s t : State} {r : ZpResponse} (h : zpRequest zp bank s = some (r, t)) :
    ∃ z cell, zp s.zp bank s.ctx (s.cell bank s.ctx) = some (r, z, cell) ∧ t = zpAnswered bank z cell s := by
  unfold zpRequest at h
  split at h
  · cases h
  · rename_i r' z cell hz
    cases h
    exact ⟨z, cell, hz, rfl⟩

theorem zpRequest_eq_none {zp : Zp} {bank : Bank} {s : State} :
    zpRequest zp bank s = none ↔ zp s.zp bank s.ctx (s.cell bank s.ctx) = none := by
  unfold zpRequest
  split <;> simp_all

@[simp] theorem zpAnswered_zp (bank : Bank) (z cell : Nat) (s : State) : (zpAnswered bank z cell s).zp = z := rfl
@[simp] theorem zpAnswered_ovrClamp (bank : Bank) (z cell : Nat) (s : State) : (zpAnswered bank z cell s).ovrClamp = s.ovrClamp := by
  cases bank <;> rfl
@[simp] theorem zpAnswered_mmrState (bank : Bank) (z cell : Nat) (s : State) : (zpAnswered bank z cell s).mmrState = s.mmrState := by
  cases bank <;> rfl
@[simp] theorem zpAnswered_jb2Failed (bank : Bank) (z cell : Nat) (s : State) : (zpAnswered bank z cell s).jb2Failed = s.jb2Failed := by
  cases bank <;> rfl
@[simp] theorem zpAnswered_mmrErr (bank : Bank) (z cell : Nat) (s : State) : (zpAnswered bank z cell s).mmrErr = s.mmrErr := by
  cases bank <;> rfl
@[simp] theorem zpAnswered_jb2Err (bank : Bank) (z cell : Nat) (s : State) : (zpAnswered bank z cell s).jb2Err = s.jb2Err := by
  cases bank <;> rfl
@[simp] theorem zpAnswered_lastErr (bank : Bank) (z cell : Nat) (s : State) : (zpAnswered bank z cell s).lastErr = s.lastErr := by
  cases bank <;> rfl
@[simp] theorem zpAnswered_width (bank : Bank) (z cell : Nat) (s : State) : (zpAnswered bank z cell s).width = s.width := by
  cases bank <;> rfl
@[simp] theorem zpAnswered_height (bank : Bank) (z cell : Nat) (s : State) : (zpAnswered bank z cell s).height = s.height := by
  cases bank <;> rfl
@[simp] theorem zpAnswered_flags (bank : Bank) (z cell : Nat) (s : State) : (zpAnswered bank z cell s).flags = s.flags := by
  cases bank <;> rfl
@[simp] theorem zpAnswered_rps (bank : Bank) (z cell : Nat) (s : State) : (zpAnswered bank z cell s).rps = s.rps := by
  cases bank <;> rfl
@[simp] theorem zpAnswered_lineno (bank : Bank) (z cell : Nat) (s : State) : (zpAnswered bank z cell s).lineno = s.lineno := by
  cases bank <;> rfl
@[simp] theorem zpAnswered_striplineno (bank : Bank) (z cell : Nat) (s : State) : (zpAnswered bank z cell s).striplineno = s.striplineno := by
  cases bank <;> rfl
@[simp] theorem zpAnswered_stripeno (bank : Bank) (z cell : Nat) (s : State) : (zpAnswered bank z cell s).stripeno = s.stripeno := by
  cases bank <;> rfl
@[simp] theorem zpAnswered_bitpos (bank : Bank) (z cell : Nat) (s : State) : (zpAnswered bank z cell s).bitpos = s.bitpos := by
  cases bank <;> rfl
@[simp] theorem zpAnswered_errrow (bank : Bank) (z cell : Nat) (s : State) : (zpAnswered bank z cell s).errrow = s.errrow := by
  cases bank <;> rfl
@[simp] theorem zpAnswered_errbit (bank : Bank) (z cell : Nat) (s : State) : (zpAnswered bank z cell s).errbit = s.errbit := by
  cases bank <;> rfl
@[simp] theorem zpAnswered_jb2Errx (bank : Bank) (z cell : Nat) (s : State) : (zpAnswered bank z cell s).jb2Errx = s.jb2Errx := by
  cases bank <;> rfl
@[simp] theorem zpAnswered_jb2Erry (bank : Bank) (z cell : Nat) (s : State) : (zpAnswered bank z cell s).jb2Erry = s.jb2Erry := by
  cases bank <;> rfl
@[simp] theorem zpAnswered_stream (bank : Bank) (z cell : Nat) (s : State) : (zpAnswered bank z cell s).stream = s.stream := by
  cases bank <;> rfl
@[simp] theorem zpAnswered_sp (bank : Bank) (z cell : Nat) (s : State) : (zpAnswered bank z cell s).sp = s.sp := by
  cases bank <;> rfl
@[simp] theorem zpAnswered_send (bank : Bank) (z cell : Nat) (s : State) : (zpAnswered bank z cell s).send = s.send := by
  cases bank <;> rfl
@[simp] theorem zpAnswered_sdata (bank : Bank) (z cell : Nat) (s : State) : (zpAnswered bank z cell s).sdata = s.sdata := by
  cases bank <;> rfl
@[simp] theorem zpAnswered_ref (bank : Bank) (z cell : Nat) (s : State) : (zpAnswered bank z cell s).ref = s.ref := by
  cases bank <;> rfl
@[simp] theorem zpAnswered_cur (bank : Bank) (z cell : Nat) (s : State) : (zpAnswered bank z cell s).cur = s.cur := by
  cases bank <;> rfl
@[simp] theorem zpAnswered_a0 (bank : Bank) (z cell : Nat) (s : State) : (zpAnswered bank z cell s).a0 = s.a0 := by
  cases bank <;> rfl
@[simp] theorem zpAnswered_b1 (bank : Bank) (z cell : Nat) (s : State) : (zpAnswered bank z cell s).b1 = s.b1 := by
  cases bank <;> rfl
@[simp] theorem zpAnswered_pr (bank : Bank) (z cell : Nat) (s : State) : (zpAnswered bank z cell s).pr = s.pr := by
  cases bank <;> rfl
@[simp] theorem zpAnswered_rle (bank : Bank) (z cell : Nat) (s : State) : (zpAnswered bank z cell s).rle = s.rle := by
  cases bank <;> rfl
@[simp] theorem zpAnswered_color (bank : Bank) (z cell : Nat) (s : State) : (zpAnswered bank z cell s).color = s.color := by
  cases bank <;> rfl
@[simp] theorem zpAnswered_cwstart (bank : Bank) (z cell : Nat) (s : State) : (zpAnswered bank z cell s).cwstart = s.cwstart := by
  cases bank <;> rfl
@[simp] theorem zpAnswered_out (bank : Bank) (z cell : Nat) (s : State) : (zpAnswered bank z cell s).out = s.out := by
  cases bank <;> rfl
@[simp] theorem zpAnswered_tb (bank : Bank) (z cell : Nat) (s : State) : (zpAnswered bank z cell s).tb = s.tb := by
  cases bank <;> rfl
@[simp] theorem zpAnswered_model (bank : Bank) (z cell : Nat) (s : State) : (zpAnswered bank z cell s).model = s.model := by
  cases bank <;> rfl
@[simp] theorem zpAnswered_x (bank : Bank) (z cell : Nat) (s : State) : (zpAnswered bank z cell s).x = s.x := by
  cases bank <;> rfl
@[simp] theorem zpAnswered_y (bank : Bank) (z cell : Nat) (s : State) : (zpAnswered bank z cell s).y = s.y := by
  cases bank <;> rfl
@[simp] theorem zpAnswered_ctx (bank : Bank) (z cell : Nat) (s : State) : (zpAnswered bank z cell s).ctx = s.ctx := by
  cases bank <;> rfl
@[simp] theorem zpAnswered_xd2c (bank : Bank) (z cell : Nat) (s : State) : (zpAnswered bank z cell s).xd2c = s.xd2c := by
  cases bank <;> rfl
@[simp] theorem zpAnswered_yd2c (bank : Bank) (z cell : Nat) (s : State) : (zpAnswered bank z cell s).yd2c = s.yd2c := by
  cases bank <;> rfl
@[simp] theorem zpAnswered_pos (bank : Bank) (z cell : Nat) (s : State) : (zpAnswered bank z cell s).pos = s.pos := by
  cases bank <;> rfl
@[simp] theorem zpAnswered_scan (bank : Bank) (z cell : Nat) (s : State) : (zpAnswered bank z cell s).scan = s.scan := by
  cases bank <;> rfl
@[simp] theorem zpAnswered_result (bank : Bank) (z cell : Nat) (s : State) : (zpAnswered bank z cell s).result = s.result := by
  cases bank <;> rfl
@[simp] theorem zpAnswered_inbox (bank : Bank) (z cell : Nat) (s : State) : (zpAnswered bank z cell s).inbox = s.inbox := by
  cases bank <;> rfl
@[simp] theorem zpAnswered_freeCount (bank : Bank) (z cell : Nat) (s : State) : (zpAnswered bank z cell s).freeCount = s.freeCount := by
  cases bank <;> rfl

/-! ## Positions -/

/-- A run codeword where its colour is read. -/
theorem runCodeword_at {c : Colour} {s : State} (h : s.runColour = some c) (v len : Nat) :
    runCodeword c v len s = finishMmr (takeCodeword len s >>= addRun v) := by
  simp only [runCodeword, if_pos h]

/-- A codeword that only one position reads, at that position. -/
theorem codewordAt_at {p : Position} {s : State} (h : s.pos = p) (body : State → Try State) :
    codewordAt p body s = finishMmr (body s) := by
  simp only [codewordAt, if_pos h]

/-- A mode codeword at the mode position. -/
theorem modeCodeword_mode {s : State} (h : s.pos = .mode) (len : Nat) (body close : State → Try State) :
    modeCodeword len body close s = finishMmr (takeCodeword len s >>= body) := by
  simp only [modeCodeword, h]

/-- A mode codeword at the trailing-run check (spec 40_mmr_modes.md R167). -/
theorem modeCodeword_trailing {s : State} (h : s.pos = .trailing) (len : Nat) (body close : State → Try State) :
    modeCodeword len body close s = finishMmr (takeCodeword len s >>= close) := by
  simp only [modeCodeword, h]

/-- A command between commands (spec 46_control.md R294). -/
theorem commandAt_idle {s : State} (h : s.pos = .idle) (body : State → Result) : commandAt body s = body s := by
  simp only [commandAt, if_pos h]

/-! ## Run operands and uncompressed pixels -/

/-- A codeword that would take the position past A0_LIMIT raises at its start (spec 40_mmr_modes.md R171). -/
theorem addRun_limit {v : Nat} {s : State} (h : 131072 < s.a0 + v) :
    addRun v s = .error ⟨.corruptMMRStream, s.cwstart, { s with a0 := s.a0 + v, rle := s.rle + v }⟩ := by
  simp [addRun, Config.a0Limit, h]

/-- A makeup value joins the position and the pending run (spec 40_mmr_modes.md R155). -/
theorem addRun_makeup {v : Nat} {s : State} (h : s.a0 + v ≤ 131072) (hv : 64 ≤ v) :
    addRun v s = .ok { s with a0 := s.a0 + v, rle := s.rle + v } := by
  simp [addRun, Config.a0Limit, Int.not_lt.mpr h, Nat.not_lt.mpr hv]

/-- A terminating value joins them and ends the run (spec 40_mmr_modes.md R155). -/
theorem addRun_terminating {v : Nat} {s : State} (h : s.a0 + v ≤ 131072) (hv : v < 64) :
    addRun v s = endRun { s with a0 := s.a0 + v, rle := s.rle + v } := by
  simp [addRun, Config.a0Limit, Int.not_lt.mpr h, hv]

/-- The first run of Horizontal mode ends: it is emitted and the second is read next (spec 40_mmr_modes.md R154). -/
theorem endRun_first {s : State} (hp : s.pos = .run1) (hv : 0 ≤ s.rle) (hc : s.cur.length < s.width.toNat + 2) :
    endRun s = .ok { s with cur := s.cur ++ [s.rle.toNat], rle := 0, pos := .run2 } := by
  simp [endRun, hp, emitPending_ok hv hc]

/-- The second run ends the mode (spec 40_mmr_modes.md R154). -/
theorem endRun_second {s : State} (hp : s.pos = .run2) (hv : 0 ≤ s.rle) (hc : s.cur.length < s.width.toNat + 2) :
    endRun s = afterMode { s with cur := s.cur ++ [s.rle.toNat], rle := 0 } := by
  simp [endRun, hp, emitPending_ok hv hc]

/-- A run that cannot be emitted raises at its terminating code, first or second (spec 40_mmr_modes.md R154, R164). -/
theorem endRun_raises {s : State} (h : CannotEmit s s.rle) : endRun s = .error ⟨.corruptMMRStream, s.cwstart, s⟩ := by
  unfold endRun
  split <;> simp [emitPending_raises h]

/-- A pixel of the current colour joins the pending run (spec 41_mmr_escapes.md R196). -/
theorem uPix_same {p : Colour} {s : State} (h : p = s.color) :
    uPix p s = .ok { s with rle := s.rle + 1, a0 := s.a0 + 1 } := by
  simp [uPix, h]

/-- A pixel of the other colour emits the pending run and starts one of its own (spec 41_mmr_escapes.md R196). -/
theorem uPix_other {p : Colour} {s : State} (h : p ≠ s.color) (hv : 0 ≤ s.rle) (hc : s.cur.length < s.width.toNat + 2) :
    uPix p s = .ok { s with cur := s.cur ++ [s.rle.toNat], color := p, rle := 1, a0 := s.a0 + 1 } := by
  simp [uPix, h, emitPending_ok hv hc, State.setColor]

/-- A pixel of the other colour raises where the pending run cannot be emitted (spec 41_mmr_escapes.md R196). -/
theorem uPix_raises {p : Colour} {s : State} (h : p ≠ s.color) (hr : CannotEmit s s.rle) :
    uPix p s = .error ⟨.corruptMMRStream, s.cwstart, s⟩ := by
  simp [uPix, h, emitPending_raises hr]

/-- The width check passes up to W and raises past it (spec 41_mmr_escapes.md R196). -/
theorem uCheck_ok {s : State} (h : s.a0 ≤ s.width.toNat) : uCheck s = .ok s := by
  simp [uCheck, Int.not_lt.mpr h]

theorem uCheck_raises {s : State} (h : (s.width.toNat : Int) < s.a0) :
    uCheck s = .error ⟨.corruptMMRStream, s.cwstart, s⟩ := by
  simp [uCheck, h]

/-! ## Scans -/

/-- A scan in ACTIVE, away from a stripe boundary: its row starts, and MMR_SCANRLE has cleared OUT (spec 42_mmr_commands.md R215,
40_mmr_modes.md R151, 20_memory.md R74). -/
theorem startScan_row {k : ScanKind} {s : State} (h : s.mmrState = .active) (hw : 0 < s.width.toNat)
    (hb : ¬ (s.striped ∧ s.striplineno = s.rps)) :
    startScan k s = .next { rowStart { beginOutput k s with scan := k, result := none } with pos := .mode } := by
  have hb' : ¬ ((beginOutput k s).striped ∧ (beginOutput k s).striplineno = (beginOutput k s).rps) := hb
  simp only [startScan, h, startRow, if_neg hb', try_ok_bind]
  rw [rowLoop_within (by simpa [rowStart] using hw)]
  rfl

/-! ## The header -/

/-- SP after n bytes that are there. -/
theorem sp_add {s : State} {n : Nat} (h : s.sp.toNat + n ≤ s.stream.length) (hl : s.stream.length < 4294967296) :
    (s.sp + BitVec.ofNat 32 n).toNat = s.sp.toNat + n := by
  simp only [BitVec.toNat_add, BitVec.toNat_ofNat]
  omega

/-- The non-striped header: its fields go to the registers, and RPS is H (spec 42_mmr_commands.md R211). -/
theorem parseHeader_plain {s : State} {w h : BitVec 16} {inv : Bool} {l : List Byte}
    (hs : s.stream.drop s.sp.toNat = headerBytes w h inv none ++ l) (hl : s.stream.length < 4294967296) (hw : w ≠ 0)
    (hh : h ≠ 0) :
    parseHeader s =
      .ok { s with sp := s.sp + 8, flags := if inv then 1 else 0, width := w, height := h, rps := h } := by
  have hlen := congrArg List.length hs
  simp [headerBytes, be16] at hlen
  have h4 := sp_add (s := s) (n := 4) (by omega) hl
  have h6 := sp_add (s := s) (n := 6) (by omega) hl
  have hsplit : s.stream.drop s.sp.toNat =
      0x4d :: 0x4d :: 0x52 :: BitVec.ofNat 8 inv.toNat :: (be16 w ++ (be16 h ++ l)) := by
    simpa [headerBytes] using hs
  have hd4 : s.stream.drop (s.sp + 4).toNat = be16 w ++ (be16 h ++ l) := by
    rw [show (s.sp + 4).toNat = s.sp.toNat + 4 from h4, ← List.drop_drop, hsplit]
    rfl
  have hd6 : s.stream.drop (s.sp + 4 + 2).toNat = be16 h ++ l := by
    rw [show s.sp + 4 + 2 = s.sp + 6 by rw [BitVec.add_assoc]; rfl, show (s.sp + 6).toNat = s.sp.toNat + (4 + 2) from h6,
      ← List.drop_drop, ← List.drop_drop, hsplit]
    rfl
  have hsp : s.sp + 4 + 2 + 2 = s.sp + 8 := by
    rw [BitVec.add_assoc, BitVec.add_assoc]
    rfl
  have hwh : ¬ (w = 0 ∨ h = 0) := fun e => e.elim hw hh
  have hr := read32_ok hsplit hl
  have hmask : (0x4d#8 ++ 0x4d#8 ++ 0x52#8 ++ BitVec.ofNat 8 inv.toNat : BitVec 32) &&& 0xfffffffc = 0x4d4d5200 := by
    cases inv <;> decide
  have hflag : (0x4d#8 ++ 0x4d#8 ++ 0x52#8 ++ BitVec.ofNat 8 inv.toNat).setWidth 2 = if inv then 1#2 else 0#2 := by
    cases inv <;> decide
  have hstriped : (if inv then 1#2 else 0#2).getLsbD 1 = false := by cases inv <;> decide
  generalize 0x4d#8 ++ 0x4d#8 ++ 0x52#8 ++ BitVec.ofNat 8 inv.toNat = m at hr hmask hflag
  generalize (if inv then 1#2 else 0#2) = f at hflag hstriped
  have hr1 := read16_field (s := { s with sp := s.sp + 4, flags := f }) hd4 hl
  have hr2 := read16_field (s := { s with sp := s.sp + 4 + 2, flags := f, width := w }) hd6 hl
  simp only [parseHeader, hr, try_ok_bind, hmask, hflag, ne_eq, not_true_eq_false, if_false, hr1, hr2, if_neg hwh,
    State.striped, hstriped, Bool.false_eq_true, try_pure, hsp]

/-! ## The bitmap loop's memory -/

/-- The inner loop's turn keeps TB's size, its form, the model bitmap and the alignment. -/
theorem decodePixel_keeps {zp : Zp} {bank : Bank} {s t : State}
    (h : decodePixel zp bank s = .ok t ∨ decodePixel zp bank s = .error (.endOfStream t)) :
    t.tb.w = s.tb.w ∧ t.tb.h = s.tb.h ∧ (s.tb.wf = true → t.tb.wf = true) ∧ t.model = s.model ∧ t.xd2c = s.xd2c ∧
      t.yd2c = s.yd2c ∧ t.y = s.y := by
  unfold decodePixel at h
  split at h
  · simp at h
  · rename_i u hu
    obtain ⟨z, cell, -, rfl⟩ := zpRequest_eq_some hu
    simp only [reduceCtorEq, Except.error.injEq, ZpStop.endOfStream.injEq, false_or] at h
    subst h
    simp
  · rename_i n u hu
    obtain ⟨z, cell, -, rfl⟩ := zpRequest_eq_some hu
    simp only [Except.ok.injEq, reduceCtorEq, or_false] at h
    subst h
    simpa using fun hw => setPix_wf hw _ _ _

/-- The inner loop's turn stops for want of an answer exactly at a request that the oracle does not answer, and has changed nothing
(spec 70_reset_and_hazards.md R349). -/
theorem decodePixel_noAnswer {zp : Zp} {bank : Bank} {s t : State} :
    decodePixel zp bank s = .error (.noAnswer t) ↔ t = s ∧ zp s.zp bank s.ctx (s.cell bank s.ctx) = none := by
  rw [← zpRequest_eq_none]
  unfold decodePixel
  split <;> rename_i h <;> simp [h, eq_comm (a := s)]

end Sys2Proof.Machine
end

