-- ==== Sys2Proof/Laws/PerInstr.lean ====
section
/-! SUPPORT. The per-instruction family `EncodesWithin`: how every instruction is encoded, one lemma per constructor.
-/
namespace Sys2Proof.Laws

/-- A codeword has 1 to 24 bits and its code fits them (spec 30_encoding.md R101, R103-R109, R113, R114); a command's opcode is its own
and its packet names it back (30_encoding.md R122). -/
def EncodesWithin.Statement (i : Instr) : Prop :=
  match encode i with
  | .command c => i.wellFormed = true → commandInstr c = some i
  | .codeword _ code len => 1 ≤ len ∧ len ≤ 24 ∧ code < 2 ^ len

theorem EncodesWithin.mmrInit (bytes : List Byte) : EncodesWithin.Statement (.mmrInit bytes) := fun _ => rfl

theorem EncodesWithin.mmrScanruns : EncodesWithin.Statement .mmrScanruns := fun _ => rfl

theorem EncodesWithin.mmrScanrle : EncodesWithin.Statement .mmrScanrle := fun _ => rfl

theorem EncodesWithin.jb2Direct (dw dh : Word) : EncodesWithin.Statement (.jb2Direct dw dh) := fun _ => rfl

theorem EncodesWithin.jb2Cross (dw dh : Word) (mb : Bitmap) (box : Box) : EncodesWithin.Statement (.jb2Cross dw dh mb box) := fun _ => rfl

theorem EncodesWithin.ctxInit : EncodesWithin.Statement .ctxInit := fun _ => rfl

theorem EncodesWithin.writeCtrl (v : Word) : EncodesWithin.Statement (.writeCtrl v) := fun _ => rfl

theorem EncodesWithin.readReg (n : BitVec 8) : EncodesWithin.Statement (.readReg n) := fun _ => rfl

/-- The packet of a reserved opcode names it back, opcode by opcode. -/
theorem reserved_packet : ∀ n : Fin 256, reservedOpcode (.ofFin n) = true →
    commandInstr ⟨.ofFin n, .none⟩ = some (.reserved (.ofFin n)) := by
  decide +kernel

theorem EncodesWithin.reserved (opcode : BitVec 8) : EncodesWithin.Statement (.reserved opcode) :=
  reserved_packet opcode.toFin

theorem EncodesWithin.p : EncodesWithin.Statement .p := (by decide : 1 ≤ 4 ∧ 4 ≤ 24 ∧ 0b0001 < 2 ^ 4)

theorem EncodesWithin.h : EncodesWithin.Statement .h := (by decide : 1 ≤ 3 ∧ 3 ≤ 24 ∧ 0b001 < 2 ^ 3)

theorem EncodesWithin.v0 : EncodesWithin.Statement .v0 := (by decide : 1 ≤ 1 ∧ 1 ≤ 24 ∧ 0b1 < 2 ^ 1)

theorem EncodesWithin.vr1 : EncodesWithin.Statement .vr1 := (by decide : 1 ≤ 3 ∧ 3 ≤ 24 ∧ 0b011 < 2 ^ 3)

theorem EncodesWithin.vr2 : EncodesWithin.Statement .vr2 := (by decide : 1 ≤ 6 ∧ 6 ≤ 24 ∧ 0b000011 < 2 ^ 6)

theorem EncodesWithin.vr3 : EncodesWithin.Statement .vr3 := (by decide : 1 ≤ 7 ∧ 7 ≤ 24 ∧ 0b0000011 < 2 ^ 7)

theorem EncodesWithin.vl1 : EncodesWithin.Statement .vl1 := (by decide : 1 ≤ 3 ∧ 3 ≤ 24 ∧ 0b010 < 2 ^ 3)

theorem EncodesWithin.vl2 : EncodesWithin.Statement .vl2 := (by decide : 1 ≤ 6 ∧ 6 ≤ 24 ∧ 0b000010 < 2 ^ 6)

theorem EncodesWithin.vl3 : EncodesWithin.Statement .vl3 := (by decide : 1 ≤ 7 ∧ 7 ≤ 24 ∧ 0b0000010 < 2 ^ 7)

theorem EncodesWithin.eofb : EncodesWithin.Statement .eofb := (by decide : 1 ≤ 24 ∧ 24 ≤ 24 ∧ 0b000000000001000000000001 < 2 ^ 24)

theorem EncodesWithin.unc : EncodesWithin.Statement .unc := (by decide : 1 ≤ 10 ∧ 10 ≤ 24 ∧ 0b0000001111 < 2 ^ 10)

theorem EncodesWithin.u1 : EncodesWithin.Statement .u1 := (by decide : 1 ≤ 1 ∧ 1 ≤ 24 ∧ 0b1 < 2 ^ 1)

theorem EncodesWithin.u01 : EncodesWithin.Statement .u01 := (by decide : 1 ≤ 2 ∧ 2 ≤ 24 ∧ 0b01 < 2 ^ 2)

theorem EncodesWithin.u001 : EncodesWithin.Statement .u001 := (by decide : 1 ≤ 3 ∧ 3 ≤ 24 ∧ 0b001 < 2 ^ 3)

theorem EncodesWithin.u0001 : EncodesWithin.Statement .u0001 := (by decide : 1 ≤ 4 ∧ 4 ≤ 24 ∧ 0b0001 < 2 ^ 4)

theorem EncodesWithin.u00001 : EncodesWithin.Statement .u00001 := (by decide : 1 ≤ 5 ∧ 5 ≤ 24 ∧ 0b00001 < 2 ^ 5)

theorem EncodesWithin.u00000 : EncodesWithin.Statement .u00000 := (by decide : 1 ≤ 6 ∧ 6 ≤ 24 ∧ 0b000001 < 2 ^ 6)

theorem EncodesWithin.ux (t : Colour) : EncodesWithin.Statement (.ux t) := by cases t <;> first | exact (by decide : 1 ≤ 8 ∧ 8 ≤ 24 ∧ 2 < 2 ^ 8) | exact (by decide : 1 ≤ 8 ∧ 8 ≤ 24 ∧ 3 < 2 ^ 8)

theorem EncodesWithin.wt0 : EncodesWithin.Statement .wt0 := (by decide : 1 ≤ 8 ∧ 8 ≤ 24 ∧ 0b00110101 < 2 ^ 8)

theorem EncodesWithin.wt1 : EncodesWithin.Statement .wt1 := (by decide : 1 ≤ 6 ∧ 6 ≤ 24 ∧ 0b000111 < 2 ^ 6)

theorem EncodesWithin.wt2 : EncodesWithin.Statement .wt2 := (by decide : 1 ≤ 4 ∧ 4 ≤ 24 ∧ 0b0111 < 2 ^ 4)

theorem EncodesWithin.wt3 : EncodesWithin.Statement .wt3 := (by decide : 1 ≤ 4 ∧ 4 ≤ 24 ∧ 0b1000 < 2 ^ 4)

theorem EncodesWithin.wt4 : EncodesWithin.Statement .wt4 := (by decide : 1 ≤ 4 ∧ 4 ≤ 24 ∧ 0b1011 < 2 ^ 4)

theorem EncodesWithin.wt5 : EncodesWithin.Statement .wt5 := (by decide : 1 ≤ 4 ∧ 4 ≤ 24 ∧ 0b1100 < 2 ^ 4)

theorem EncodesWithin.wt6 : EncodesWithin.Statement .wt6 := (by decide : 1 ≤ 4 ∧ 4 ≤ 24 ∧ 0b1110 < 2 ^ 4)

theorem EncodesWithin.wt7 : EncodesWithin.Statement .wt7 := (by decide : 1 ≤ 4 ∧ 4 ≤ 24 ∧ 0b1111 < 2 ^ 4)

theorem EncodesWithin.wt8 : EncodesWithin.Statement .wt8 := (by decide : 1 ≤ 5 ∧ 5 ≤ 24 ∧ 0b10011 < 2 ^ 5)

theorem EncodesWithin.wt9 : EncodesWithin.Statement .wt9 := (by decide : 1 ≤ 5 ∧ 5 ≤ 24 ∧ 0b10100 < 2 ^ 5)

theorem EncodesWithin.wt10 : EncodesWithin.Statement .wt10 := (by decide : 1 ≤ 5 ∧ 5 ≤ 24 ∧ 0b00111 < 2 ^ 5)

theorem EncodesWithin.wt11 : EncodesWithin.Statement .wt11 := (by decide : 1 ≤ 5 ∧ 5 ≤ 24 ∧ 0b01000 < 2 ^ 5)

theorem EncodesWithin.wt12 : EncodesWithin.Statement .wt12 := (by decide : 1 ≤ 6 ∧ 6 ≤ 24 ∧ 0b001000 < 2 ^ 6)

theorem EncodesWithin.wt13 : EncodesWithin.Statement .wt13 := (by decide : 1 ≤ 6 ∧ 6 ≤ 24 ∧ 0b000011 < 2 ^ 6)

theorem EncodesWithin.wt14 : EncodesWithin.Statement .wt14 := (by decide : 1 ≤ 6 ∧ 6 ≤ 24 ∧ 0b110100 < 2 ^ 6)

theorem EncodesWithin.wt15 : EncodesWithin.Statement .wt15 := (by decide : 1 ≤ 6 ∧ 6 ≤ 24 ∧ 0b110101 < 2 ^ 6)

theorem EncodesWithin.wt16 : EncodesWithin.Statement .wt16 := (by decide : 1 ≤ 6 ∧ 6 ≤ 24 ∧ 0b101010 < 2 ^ 6)

theorem EncodesWithin.wt17 : EncodesWithin.Statement .wt17 := (by decide : 1 ≤ 6 ∧ 6 ≤ 24 ∧ 0b101011 < 2 ^ 6)

theorem EncodesWithin.wt18 : EncodesWithin.Statement .wt18 := (by decide : 1 ≤ 7 ∧ 7 ≤ 24 ∧ 0b0100111 < 2 ^ 7)

theorem EncodesWithin.wt19 : EncodesWithin.Statement .wt19 := (by decide : 1 ≤ 7 ∧ 7 ≤ 24 ∧ 0b0001100 < 2 ^ 7)

theorem EncodesWithin.wt20 : EncodesWithin.Statement .wt20 := (by decide : 1 ≤ 7 ∧ 7 ≤ 24 ∧ 0b0001000 < 2 ^ 7)

theorem EncodesWithin.wt21 : EncodesWithin.Statement .wt21 := (by decide : 1 ≤ 7 ∧ 7 ≤ 24 ∧ 0b0010111 < 2 ^ 7)

theorem EncodesWithin.wt22 : EncodesWithin.Statement .wt22 := (by decide : 1 ≤ 7 ∧ 7 ≤ 24 ∧ 0b0000011 < 2 ^ 7)

theorem EncodesWithin.wt23 : EncodesWithin.Statement .wt23 := (by decide : 1 ≤ 7 ∧ 7 ≤ 24 ∧ 0b0000100 < 2 ^ 7)

theorem EncodesWithin.wt24 : EncodesWithin.Statement .wt24 := (by decide : 1 ≤ 7 ∧ 7 ≤ 24 ∧ 0b0101000 < 2 ^ 7)

theorem EncodesWithin.wt25 : EncodesWithin.Statement .wt25 := (by decide : 1 ≤ 7 ∧ 7 ≤ 24 ∧ 0b0101011 < 2 ^ 7)

theorem EncodesWithin.wt26 : EncodesWithin.Statement .wt26 := (by decide : 1 ≤ 7 ∧ 7 ≤ 24 ∧ 0b0010011 < 2 ^ 7)

theorem EncodesWithin.wt27 : EncodesWithin.Statement .wt27 := (by decide : 1 ≤ 7 ∧ 7 ≤ 24 ∧ 0b0100100 < 2 ^ 7)

theorem EncodesWithin.wt28 : EncodesWithin.Statement .wt28 := (by decide : 1 ≤ 7 ∧ 7 ≤ 24 ∧ 0b0011000 < 2 ^ 7)

theorem EncodesWithin.wt29 : EncodesWithin.Statement .wt29 := (by decide : 1 ≤ 8 ∧ 8 ≤ 24 ∧ 0b00000010 < 2 ^ 8)

theorem EncodesWithin.wt30 : EncodesWithin.Statement .wt30 := (by decide : 1 ≤ 8 ∧ 8 ≤ 24 ∧ 0b00000011 < 2 ^ 8)

theorem EncodesWithin.wt31 : EncodesWithin.Statement .wt31 := (by decide : 1 ≤ 8 ∧ 8 ≤ 24 ∧ 0b00011010 < 2 ^ 8)

theorem EncodesWithin.wt32 : EncodesWithin.Statement .wt32 := (by decide : 1 ≤ 8 ∧ 8 ≤ 24 ∧ 0b00011011 < 2 ^ 8)

theorem EncodesWithin.wt33 : EncodesWithin.Statement .wt33 := (by decide : 1 ≤ 8 ∧ 8 ≤ 24 ∧ 0b00010010 < 2 ^ 8)

theorem EncodesWithin.wt34 : EncodesWithin.Statement .wt34 := (by decide : 1 ≤ 8 ∧ 8 ≤ 24 ∧ 0b00010011 < 2 ^ 8)

theorem EncodesWithin.wt35 : EncodesWithin.Statement .wt35 := (by decide : 1 ≤ 8 ∧ 8 ≤ 24 ∧ 0b00010100 < 2 ^ 8)

theorem EncodesWithin.wt36 : EncodesWithin.Statement .wt36 := (by decide : 1 ≤ 8 ∧ 8 ≤ 24 ∧ 0b00010101 < 2 ^ 8)

theorem EncodesWithin.wt37 : EncodesWithin.Statement .wt37 := (by decide : 1 ≤ 8 ∧ 8 ≤ 24 ∧ 0b00010110 < 2 ^ 8)

theorem EncodesWithin.wt38 : EncodesWithin.Statement .wt38 := (by decide : 1 ≤ 8 ∧ 8 ≤ 24 ∧ 0b00010111 < 2 ^ 8)

theorem EncodesWithin.wt39 : EncodesWithin.Statement .wt39 := (by decide : 1 ≤ 8 ∧ 8 ≤ 24 ∧ 0b00101000 < 2 ^ 8)

theorem EncodesWithin.wt40 : EncodesWithin.Statement .wt40 := (by decide : 1 ≤ 8 ∧ 8 ≤ 24 ∧ 0b00101001 < 2 ^ 8)

theorem EncodesWithin.wt41 : EncodesWithin.Statement .wt41 := (by decide : 1 ≤ 8 ∧ 8 ≤ 24 ∧ 0b00101010 < 2 ^ 8)

theorem EncodesWithin.wt42 : EncodesWithin.Statement .wt42 := (by decide : 1 ≤ 8 ∧ 8 ≤ 24 ∧ 0b00101011 < 2 ^ 8)

theorem EncodesWithin.wt43 : EncodesWithin.Statement .wt43 := (by decide : 1 ≤ 8 ∧ 8 ≤ 24 ∧ 0b00101100 < 2 ^ 8)

theorem EncodesWithin.wt44 : EncodesWithin.Statement .wt44 := (by decide : 1 ≤ 8 ∧ 8 ≤ 24 ∧ 0b00101101 < 2 ^ 8)

theorem EncodesWithin.wt45 : EncodesWithin.Statement .wt45 := (by decide : 1 ≤ 8 ∧ 8 ≤ 24 ∧ 0b00000100 < 2 ^ 8)

theorem EncodesWithin.wt46 : EncodesWithin.Statement .wt46 := (by decide : 1 ≤ 8 ∧ 8 ≤ 24 ∧ 0b00000101 < 2 ^ 8)

theorem EncodesWithin.wt47 : EncodesWithin.Statement .wt47 := (by decide : 1 ≤ 8 ∧ 8 ≤ 24 ∧ 0b00001010 < 2 ^ 8)

theorem EncodesWithin.wt48 : EncodesWithin.Statement .wt48 := (by decide : 1 ≤ 8 ∧ 8 ≤ 24 ∧ 0b00001011 < 2 ^ 8)

theorem EncodesWithin.wt49 : EncodesWithin.Statement .wt49 := (by decide : 1 ≤ 8 ∧ 8 ≤ 24 ∧ 0b01010010 < 2 ^ 8)

theorem EncodesWithin.wt50 : EncodesWithin.Statement .wt50 := (by decide : 1 ≤ 8 ∧ 8 ≤ 24 ∧ 0b01010011 < 2 ^ 8)

theorem EncodesWithin.wt51 : EncodesWithin.Statement .wt51 := (by decide : 1 ≤ 8 ∧ 8 ≤ 24 ∧ 0b01010100 < 2 ^ 8)

theorem EncodesWithin.wt52 : EncodesWithin.Statement .wt52 := (by decide : 1 ≤ 8 ∧ 8 ≤ 24 ∧ 0b01010101 < 2 ^ 8)

theorem EncodesWithin.wt53 : EncodesWithin.Statement .wt53 := (by decide : 1 ≤ 8 ∧ 8 ≤ 24 ∧ 0b00100100 < 2 ^ 8)

theorem EncodesWithin.wt54 : EncodesWithin.Statement .wt54 := (by decide : 1 ≤ 8 ∧ 8 ≤ 24 ∧ 0b00100101 < 2 ^ 8)

theorem EncodesWithin.wt55 : EncodesWithin.Statement .wt55 := (by decide : 1 ≤ 8 ∧ 8 ≤ 24 ∧ 0b01011000 < 2 ^ 8)

theorem EncodesWithin.wt56 : EncodesWithin.Statement .wt56 := (by decide : 1 ≤ 8 ∧ 8 ≤ 24 ∧ 0b01011001 < 2 ^ 8)

theorem EncodesWithin.wt57 : EncodesWithin.Statement .wt57 := (by decide : 1 ≤ 8 ∧ 8 ≤ 24 ∧ 0b01011010 < 2 ^ 8)

theorem EncodesWithin.wt58 : EncodesWithin.Statement .wt58 := (by decide : 1 ≤ 8 ∧ 8 ≤ 24 ∧ 0b01011011 < 2 ^ 8)

theorem EncodesWithin.wt59 : EncodesWithin.Statement .wt59 := (by decide : 1 ≤ 8 ∧ 8 ≤ 24 ∧ 0b01001010 < 2 ^ 8)

theorem EncodesWithin.wt60 : EncodesWithin.Statement .wt60 := (by decide : 1 ≤ 8 ∧ 8 ≤ 24 ∧ 0b01001011 < 2 ^ 8)

theorem EncodesWithin.wt61 : EncodesWithin.Statement .wt61 := (by decide : 1 ≤ 8 ∧ 8 ≤ 24 ∧ 0b00110010 < 2 ^ 8)

theorem EncodesWithin.wt62 : EncodesWithin.Statement .wt62 := (by decide : 1 ≤ 8 ∧ 8 ≤ 24 ∧ 0b00110011 < 2 ^ 8)

theorem EncodesWithin.wt63 : EncodesWithin.Statement .wt63 := (by decide : 1 ≤ 8 ∧ 8 ≤ 24 ∧ 0b00110100 < 2 ^ 8)

theorem EncodesWithin.wm64 : EncodesWithin.Statement .wm64 := (by decide : 1 ≤ 5 ∧ 5 ≤ 24 ∧ 0b11011 < 2 ^ 5)

theorem EncodesWithin.wm128 : EncodesWithin.Statement .wm128 := (by decide : 1 ≤ 5 ∧ 5 ≤ 24 ∧ 0b10010 < 2 ^ 5)

theorem EncodesWithin.wm192 : EncodesWithin.Statement .wm192 := (by decide : 1 ≤ 6 ∧ 6 ≤ 24 ∧ 0b010111 < 2 ^ 6)

theorem EncodesWithin.wm256 : EncodesWithin.Statement .wm256 := (by decide : 1 ≤ 7 ∧ 7 ≤ 24 ∧ 0b0110111 < 2 ^ 7)

theorem EncodesWithin.wm320 : EncodesWithin.Statement .wm320 := (by decide : 1 ≤ 8 ∧ 8 ≤ 24 ∧ 0b00110110 < 2 ^ 8)

theorem EncodesWithin.wm384 : EncodesWithin.Statement .wm384 := (by decide : 1 ≤ 8 ∧ 8 ≤ 24 ∧ 0b00110111 < 2 ^ 8)

theorem EncodesWithin.wm448 : EncodesWithin.Statement .wm448 := (by decide : 1 ≤ 8 ∧ 8 ≤ 24 ∧ 0b01100100 < 2 ^ 8)

theorem EncodesWithin.wm512 : EncodesWithin.Statement .wm512 := (by decide : 1 ≤ 8 ∧ 8 ≤ 24 ∧ 0b01100101 < 2 ^ 8)

theorem EncodesWithin.wm576 : EncodesWithin.Statement .wm576 := (by decide : 1 ≤ 8 ∧ 8 ≤ 24 ∧ 0b01101000 < 2 ^ 8)

theorem EncodesWithin.wm640 : EncodesWithin.Statement .wm640 := (by decide : 1 ≤ 8 ∧ 8 ≤ 24 ∧ 0b01100111 < 2 ^ 8)

theorem EncodesWithin.wm704 : EncodesWithin.Statement .wm704 := (by decide : 1 ≤ 9 ∧ 9 ≤ 24 ∧ 0b011001100 < 2 ^ 9)

theorem EncodesWithin.wm768 : EncodesWithin.Statement .wm768 := (by decide : 1 ≤ 9 ∧ 9 ≤ 24 ∧ 0b011001101 < 2 ^ 9)

theorem EncodesWithin.wm832 : EncodesWithin.Statement .wm832 := (by decide : 1 ≤ 9 ∧ 9 ≤ 24 ∧ 0b011010010 < 2 ^ 9)

theorem EncodesWithin.wm896 : EncodesWithin.Statement .wm896 := (by decide : 1 ≤ 9 ∧ 9 ≤ 24 ∧ 0b011010011 < 2 ^ 9)

theorem EncodesWithin.wm960 : EncodesWithin.Statement .wm960 := (by decide : 1 ≤ 9 ∧ 9 ≤ 24 ∧ 0b011010100 < 2 ^ 9)

theorem EncodesWithin.wm1024 : EncodesWithin.Statement .wm1024 := (by decide : 1 ≤ 9 ∧ 9 ≤ 24 ∧ 0b011010101 < 2 ^ 9)

theorem EncodesWithin.wm1088 : EncodesWithin.Statement .wm1088 := (by decide : 1 ≤ 9 ∧ 9 ≤ 24 ∧ 0b011010110 < 2 ^ 9)

theorem EncodesWithin.wm1152 : EncodesWithin.Statement .wm1152 := (by decide : 1 ≤ 9 ∧ 9 ≤ 24 ∧ 0b011010111 < 2 ^ 9)

theorem EncodesWithin.wm1216 : EncodesWithin.Statement .wm1216 := (by decide : 1 ≤ 9 ∧ 9 ≤ 24 ∧ 0b011011000 < 2 ^ 9)

theorem EncodesWithin.wm1280 : EncodesWithin.Statement .wm1280 := (by decide : 1 ≤ 9 ∧ 9 ≤ 24 ∧ 0b011011001 < 2 ^ 9)

theorem EncodesWithin.wm1344 : EncodesWithin.Statement .wm1344 := (by decide : 1 ≤ 9 ∧ 9 ≤ 24 ∧ 0b011011010 < 2 ^ 9)

theorem EncodesWithin.wm1408 : EncodesWithin.Statement .wm1408 := (by decide : 1 ≤ 9 ∧ 9 ≤ 24 ∧ 0b011011011 < 2 ^ 9)

theorem EncodesWithin.wm1472 : EncodesWithin.Statement .wm1472 := (by decide : 1 ≤ 9 ∧ 9 ≤ 24 ∧ 0b010011000 < 2 ^ 9)

theorem EncodesWithin.wm1536 : EncodesWithin.Statement .wm1536 := (by decide : 1 ≤ 9 ∧ 9 ≤ 24 ∧ 0b010011001 < 2 ^ 9)

theorem EncodesWithin.wm1600 : EncodesWithin.Statement .wm1600 := (by decide : 1 ≤ 9 ∧ 9 ≤ 24 ∧ 0b010011010 < 2 ^ 9)

theorem EncodesWithin.wm1664 : EncodesWithin.Statement .wm1664 := (by decide : 1 ≤ 6 ∧ 6 ≤ 24 ∧ 0b011000 < 2 ^ 6)

theorem EncodesWithin.wm1728 : EncodesWithin.Statement .wm1728 := (by decide : 1 ≤ 9 ∧ 9 ≤ 24 ∧ 0b010011011 < 2 ^ 9)

theorem EncodesWithin.wx1792 : EncodesWithin.Statement .wx1792 := (by decide : 1 ≤ 11 ∧ 11 ≤ 24 ∧ 0b00000001000 < 2 ^ 11)

theorem EncodesWithin.wx1856 : EncodesWithin.Statement .wx1856 := (by decide : 1 ≤ 11 ∧ 11 ≤ 24 ∧ 0b00000001100 < 2 ^ 11)

theorem EncodesWithin.wx1920 : EncodesWithin.Statement .wx1920 := (by decide : 1 ≤ 11 ∧ 11 ≤ 24 ∧ 0b00000001101 < 2 ^ 11)

theorem EncodesWithin.wx1984 : EncodesWithin.Statement .wx1984 := (by decide : 1 ≤ 12 ∧ 12 ≤ 24 ∧ 0b000000010010 < 2 ^ 12)

theorem EncodesWithin.wx2048 : EncodesWithin.Statement .wx2048 := (by decide : 1 ≤ 12 ∧ 12 ≤ 24 ∧ 0b000000010011 < 2 ^ 12)

theorem EncodesWithin.wx2112 : EncodesWithin.Statement .wx2112 := (by decide : 1 ≤ 12 ∧ 12 ≤ 24 ∧ 0b000000010100 < 2 ^ 12)

theorem EncodesWithin.wx2176 : EncodesWithin.Statement .wx2176 := (by decide : 1 ≤ 12 ∧ 12 ≤ 24 ∧ 0b000000010101 < 2 ^ 12)

theorem EncodesWithin.wx2240 : EncodesWithin.Statement .wx2240 := (by decide : 1 ≤ 12 ∧ 12 ≤ 24 ∧ 0b000000010110 < 2 ^ 12)

theorem EncodesWithin.wx2304 : EncodesWithin.Statement .wx2304 := (by decide : 1 ≤ 12 ∧ 12 ≤ 24 ∧ 0b000000010111 < 2 ^ 12)

theorem EncodesWithin.wx2368 : EncodesWithin.Statement .wx2368 := (by decide : 1 ≤ 12 ∧ 12 ≤ 24 ∧ 0b000000011100 < 2 ^ 12)

theorem EncodesWithin.wx2432 : EncodesWithin.Statement .wx2432 := (by decide : 1 ≤ 12 ∧ 12 ≤ 24 ∧ 0b000000011101 < 2 ^ 12)

theorem EncodesWithin.wx2496 : EncodesWithin.Statement .wx2496 := (by decide : 1 ≤ 12 ∧ 12 ≤ 24 ∧ 0b000000011110 < 2 ^ 12)

theorem EncodesWithin.wx2560 : EncodesWithin.Statement .wx2560 := (by decide : 1 ≤ 12 ∧ 12 ≤ 24 ∧ 0b000000011111 < 2 ^ 12)

theorem EncodesWithin.bt0 : EncodesWithin.Statement .bt0 := (by decide : 1 ≤ 10 ∧ 10 ≤ 24 ∧ 0b0000110111 < 2 ^ 10)

theorem EncodesWithin.bt1 : EncodesWithin.Statement .bt1 := (by decide : 1 ≤ 3 ∧ 3 ≤ 24 ∧ 0b010 < 2 ^ 3)

theorem EncodesWithin.bt2 : EncodesWithin.Statement .bt2 := (by decide : 1 ≤ 2 ∧ 2 ≤ 24 ∧ 0b11 < 2 ^ 2)

theorem EncodesWithin.bt3 : EncodesWithin.Statement .bt3 := (by decide : 1 ≤ 2 ∧ 2 ≤ 24 ∧ 0b10 < 2 ^ 2)

theorem EncodesWithin.bt4 : EncodesWithin.Statement .bt4 := (by decide : 1 ≤ 3 ∧ 3 ≤ 24 ∧ 0b011 < 2 ^ 3)

theorem EncodesWithin.bt5 : EncodesWithin.Statement .bt5 := (by decide : 1 ≤ 4 ∧ 4 ≤ 24 ∧ 0b0011 < 2 ^ 4)

theorem EncodesWithin.bt6 : EncodesWithin.Statement .bt6 := (by decide : 1 ≤ 4 ∧ 4 ≤ 24 ∧ 0b0010 < 2 ^ 4)

theorem EncodesWithin.bt7 : EncodesWithin.Statement .bt7 := (by decide : 1 ≤ 5 ∧ 5 ≤ 24 ∧ 0b00011 < 2 ^ 5)

theorem EncodesWithin.bt8 : EncodesWithin.Statement .bt8 := (by decide : 1 ≤ 6 ∧ 6 ≤ 24 ∧ 0b000101 < 2 ^ 6)

theorem EncodesWithin.bt9 : EncodesWithin.Statement .bt9 := (by decide : 1 ≤ 6 ∧ 6 ≤ 24 ∧ 0b000100 < 2 ^ 6)

theorem EncodesWithin.bt10 : EncodesWithin.Statement .bt10 := (by decide : 1 ≤ 7 ∧ 7 ≤ 24 ∧ 0b0000100 < 2 ^ 7)

theorem EncodesWithin.bt11 : EncodesWithin.Statement .bt11 := (by decide : 1 ≤ 7 ∧ 7 ≤ 24 ∧ 0b0000101 < 2 ^ 7)

theorem EncodesWithin.bt12 : EncodesWithin.Statement .bt12 := (by decide : 1 ≤ 7 ∧ 7 ≤ 24 ∧ 0b0000111 < 2 ^ 7)

theorem EncodesWithin.bt13 : EncodesWithin.Statement .bt13 := (by decide : 1 ≤ 8 ∧ 8 ≤ 24 ∧ 0b00000100 < 2 ^ 8)

theorem EncodesWithin.bt14 : EncodesWithin.Statement .bt14 := (by decide : 1 ≤ 8 ∧ 8 ≤ 24 ∧ 0b00000111 < 2 ^ 8)

theorem EncodesWithin.bt15 : EncodesWithin.Statement .bt15 := (by decide : 1 ≤ 9 ∧ 9 ≤ 24 ∧ 0b000011000 < 2 ^ 9)

theorem EncodesWithin.bt16 : EncodesWithin.Statement .bt16 := (by decide : 1 ≤ 10 ∧ 10 ≤ 24 ∧ 0b0000010111 < 2 ^ 10)

theorem EncodesWithin.bt17 : EncodesWithin.Statement .bt17 := (by decide : 1 ≤ 10 ∧ 10 ≤ 24 ∧ 0b0000011000 < 2 ^ 10)

theorem EncodesWithin.bt18 : EncodesWithin.Statement .bt18 := (by decide : 1 ≤ 10 ∧ 10 ≤ 24 ∧ 0b0000001000 < 2 ^ 10)

theorem EncodesWithin.bt19 : EncodesWithin.Statement .bt19 := (by decide : 1 ≤ 11 ∧ 11 ≤ 24 ∧ 0b00001100111 < 2 ^ 11)

theorem EncodesWithin.bt20 : EncodesWithin.Statement .bt20 := (by decide : 1 ≤ 11 ∧ 11 ≤ 24 ∧ 0b00001101000 < 2 ^ 11)

theorem EncodesWithin.bt21 : EncodesWithin.Statement .bt21 := (by decide : 1 ≤ 11 ∧ 11 ≤ 24 ∧ 0b00001101100 < 2 ^ 11)

theorem EncodesWithin.bt22 : EncodesWithin.Statement .bt22 := (by decide : 1 ≤ 11 ∧ 11 ≤ 24 ∧ 0b00000110111 < 2 ^ 11)

theorem EncodesWithin.bt23 : EncodesWithin.Statement .bt23 := (by decide : 1 ≤ 11 ∧ 11 ≤ 24 ∧ 0b00000101000 < 2 ^ 11)

theorem EncodesWithin.bt24 : EncodesWithin.Statement .bt24 := (by decide : 1 ≤ 11 ∧ 11 ≤ 24 ∧ 0b00000010111 < 2 ^ 11)

theorem EncodesWithin.bt25 : EncodesWithin.Statement .bt25 := (by decide : 1 ≤ 11 ∧ 11 ≤ 24 ∧ 0b00000011000 < 2 ^ 11)

theorem EncodesWithin.bt26 : EncodesWithin.Statement .bt26 := (by decide : 1 ≤ 12 ∧ 12 ≤ 24 ∧ 0b000011001010 < 2 ^ 12)

theorem EncodesWithin.bt27 : EncodesWithin.Statement .bt27 := (by decide : 1 ≤ 12 ∧ 12 ≤ 24 ∧ 0b000011001011 < 2 ^ 12)

theorem EncodesWithin.bt28 : EncodesWithin.Statement .bt28 := (by decide : 1 ≤ 12 ∧ 12 ≤ 24 ∧ 0b000011001100 < 2 ^ 12)

theorem EncodesWithin.bt29 : EncodesWithin.Statement .bt29 := (by decide : 1 ≤ 12 ∧ 12 ≤ 24 ∧ 0b000011001101 < 2 ^ 12)

theorem EncodesWithin.bt30 : EncodesWithin.Statement .bt30 := (by decide : 1 ≤ 12 ∧ 12 ≤ 24 ∧ 0b000001101000 < 2 ^ 12)

theorem EncodesWithin.bt31 : EncodesWithin.Statement .bt31 := (by decide : 1 ≤ 12 ∧ 12 ≤ 24 ∧ 0b000001101001 < 2 ^ 12)

theorem EncodesWithin.bt32 : EncodesWithin.Statement .bt32 := (by decide : 1 ≤ 12 ∧ 12 ≤ 24 ∧ 0b000001101010 < 2 ^ 12)

theorem EncodesWithin.bt33 : EncodesWithin.Statement .bt33 := (by decide : 1 ≤ 12 ∧ 12 ≤ 24 ∧ 0b000001101011 < 2 ^ 12)

theorem EncodesWithin.bt34 : EncodesWithin.Statement .bt34 := (by decide : 1 ≤ 12 ∧ 12 ≤ 24 ∧ 0b000011010010 < 2 ^ 12)

theorem EncodesWithin.bt35 : EncodesWithin.Statement .bt35 := (by decide : 1 ≤ 12 ∧ 12 ≤ 24 ∧ 0b000011010011 < 2 ^ 12)

theorem EncodesWithin.bt36 : EncodesWithin.Statement .bt36 := (by decide : 1 ≤ 12 ∧ 12 ≤ 24 ∧ 0b000011010100 < 2 ^ 12)

theorem EncodesWithin.bt37 : EncodesWithin.Statement .bt37 := (by decide : 1 ≤ 12 ∧ 12 ≤ 24 ∧ 0b000011010101 < 2 ^ 12)

theorem EncodesWithin.bt38 : EncodesWithin.Statement .bt38 := (by decide : 1 ≤ 12 ∧ 12 ≤ 24 ∧ 0b000011010110 < 2 ^ 12)

theorem EncodesWithin.bt39 : EncodesWithin.Statement .bt39 := (by decide : 1 ≤ 12 ∧ 12 ≤ 24 ∧ 0b000011010111 < 2 ^ 12)

theorem EncodesWithin.bt40 : EncodesWithin.Statement .bt40 := (by decide : 1 ≤ 12 ∧ 12 ≤ 24 ∧ 0b000001101100 < 2 ^ 12)

theorem EncodesWithin.bt41 : EncodesWithin.Statement .bt41 := (by decide : 1 ≤ 12 ∧ 12 ≤ 24 ∧ 0b000001101101 < 2 ^ 12)

theorem EncodesWithin.bt42 : EncodesWithin.Statement .bt42 := (by decide : 1 ≤ 12 ∧ 12 ≤ 24 ∧ 0b000011011010 < 2 ^ 12)

theorem EncodesWithin.bt43 : EncodesWithin.Statement .bt43 := (by decide : 1 ≤ 12 ∧ 12 ≤ 24 ∧ 0b000011011011 < 2 ^ 12)

theorem EncodesWithin.bt44 : EncodesWithin.Statement .bt44 := (by decide : 1 ≤ 12 ∧ 12 ≤ 24 ∧ 0b000001010100 < 2 ^ 12)

theorem EncodesWithin.bt45 : EncodesWithin.Statement .bt45 := (by decide : 1 ≤ 12 ∧ 12 ≤ 24 ∧ 0b000001010101 < 2 ^ 12)

theorem EncodesWithin.bt46 : EncodesWithin.Statement .bt46 := (by decide : 1 ≤ 12 ∧ 12 ≤ 24 ∧ 0b000001010110 < 2 ^ 12)

theorem EncodesWithin.bt47 : EncodesWithin.Statement .bt47 := (by decide : 1 ≤ 12 ∧ 12 ≤ 24 ∧ 0b000001010111 < 2 ^ 12)

theorem EncodesWithin.bt48 : EncodesWithin.Statement .bt48 := (by decide : 1 ≤ 12 ∧ 12 ≤ 24 ∧ 0b000001100100 < 2 ^ 12)

theorem EncodesWithin.bt49 : EncodesWithin.Statement .bt49 := (by decide : 1 ≤ 12 ∧ 12 ≤ 24 ∧ 0b000001100101 < 2 ^ 12)

theorem EncodesWithin.bt50 : EncodesWithin.Statement .bt50 := (by decide : 1 ≤ 12 ∧ 12 ≤ 24 ∧ 0b000001010010 < 2 ^ 12)

theorem EncodesWithin.bt51 : EncodesWithin.Statement .bt51 := (by decide : 1 ≤ 12 ∧ 12 ≤ 24 ∧ 0b000001010011 < 2 ^ 12)

theorem EncodesWithin.bt52 : EncodesWithin.Statement .bt52 := (by decide : 1 ≤ 12 ∧ 12 ≤ 24 ∧ 0b000000100100 < 2 ^ 12)

theorem EncodesWithin.bt53 : EncodesWithin.Statement .bt53 := (by decide : 1 ≤ 12 ∧ 12 ≤ 24 ∧ 0b000000110111 < 2 ^ 12)

theorem EncodesWithin.bt54 : EncodesWithin.Statement .bt54 := (by decide : 1 ≤ 12 ∧ 12 ≤ 24 ∧ 0b000000111000 < 2 ^ 12)

theorem EncodesWithin.bt55 : EncodesWithin.Statement .bt55 := (by decide : 1 ≤ 12 ∧ 12 ≤ 24 ∧ 0b000000100111 < 2 ^ 12)

theorem EncodesWithin.bt56 : EncodesWithin.Statement .bt56 := (by decide : 1 ≤ 12 ∧ 12 ≤ 24 ∧ 0b000000101000 < 2 ^ 12)

theorem EncodesWithin.bt57 : EncodesWithin.Statement .bt57 := (by decide : 1 ≤ 12 ∧ 12 ≤ 24 ∧ 0b000001011000 < 2 ^ 12)

theorem EncodesWithin.bt58 : EncodesWithin.Statement .bt58 := (by decide : 1 ≤ 12 ∧ 12 ≤ 24 ∧ 0b000001011001 < 2 ^ 12)

theorem EncodesWithin.bt59 : EncodesWithin.Statement .bt59 := (by decide : 1 ≤ 12 ∧ 12 ≤ 24 ∧ 0b000000101011 < 2 ^ 12)

theorem EncodesWithin.bt60 : EncodesWithin.Statement .bt60 := (by decide : 1 ≤ 12 ∧ 12 ≤ 24 ∧ 0b000000101100 < 2 ^ 12)

theorem EncodesWithin.bt61 : EncodesWithin.Statement .bt61 := (by decide : 1 ≤ 12 ∧ 12 ≤ 24 ∧ 0b000001011010 < 2 ^ 12)

theorem EncodesWithin.bt62 : EncodesWithin.Statement .bt62 := (by decide : 1 ≤ 12 ∧ 12 ≤ 24 ∧ 0b000001100110 < 2 ^ 12)

theorem EncodesWithin.bt63 : EncodesWithin.Statement .bt63 := (by decide : 1 ≤ 12 ∧ 12 ≤ 24 ∧ 0b000001100111 < 2 ^ 12)

theorem EncodesWithin.bm64 : EncodesWithin.Statement .bm64 := (by decide : 1 ≤ 10 ∧ 10 ≤ 24 ∧ 0b0000001111 < 2 ^ 10)

theorem EncodesWithin.bm128 : EncodesWithin.Statement .bm128 := (by decide : 1 ≤ 12 ∧ 12 ≤ 24 ∧ 0b000011001000 < 2 ^ 12)

theorem EncodesWithin.bm192 : EncodesWithin.Statement .bm192 := (by decide : 1 ≤ 12 ∧ 12 ≤ 24 ∧ 0b000011001001 < 2 ^ 12)

theorem EncodesWithin.bm256 : EncodesWithin.Statement .bm256 := (by decide : 1 ≤ 12 ∧ 12 ≤ 24 ∧ 0b000001011011 < 2 ^ 12)

theorem EncodesWithin.bm320 : EncodesWithin.Statement .bm320 := (by decide : 1 ≤ 12 ∧ 12 ≤ 24 ∧ 0b000000110011 < 2 ^ 12)

theorem EncodesWithin.bm384 : EncodesWithin.Statement .bm384 := (by decide : 1 ≤ 12 ∧ 12 ≤ 24 ∧ 0b000000110100 < 2 ^ 12)

theorem EncodesWithin.bm448 : EncodesWithin.Statement .bm448 := (by decide : 1 ≤ 12 ∧ 12 ≤ 24 ∧ 0b000000110101 < 2 ^ 12)

theorem EncodesWithin.bm512 : EncodesWithin.Statement .bm512 := (by decide : 1 ≤ 13 ∧ 13 ≤ 24 ∧ 0b0000001101100 < 2 ^ 13)

theorem EncodesWithin.bm576 : EncodesWithin.Statement .bm576 := (by decide : 1 ≤ 13 ∧ 13 ≤ 24 ∧ 0b0000001101101 < 2 ^ 13)

theorem EncodesWithin.bm640 : EncodesWithin.Statement .bm640 := (by decide : 1 ≤ 13 ∧ 13 ≤ 24 ∧ 0b0000001001010 < 2 ^ 13)

theorem EncodesWithin.bm704 : EncodesWithin.Statement .bm704 := (by decide : 1 ≤ 13 ∧ 13 ≤ 24 ∧ 0b0000001001011 < 2 ^ 13)

theorem EncodesWithin.bm768 : EncodesWithin.Statement .bm768 := (by decide : 1 ≤ 13 ∧ 13 ≤ 24 ∧ 0b0000001001100 < 2 ^ 13)

theorem EncodesWithin.bm832 : EncodesWithin.Statement .bm832 := (by decide : 1 ≤ 13 ∧ 13 ≤ 24 ∧ 0b0000001001101 < 2 ^ 13)

theorem EncodesWithin.bm896 : EncodesWithin.Statement .bm896 := (by decide : 1 ≤ 13 ∧ 13 ≤ 24 ∧ 0b0000001110010 < 2 ^ 13)

theorem EncodesWithin.bm960 : EncodesWithin.Statement .bm960 := (by decide : 1 ≤ 13 ∧ 13 ≤ 24 ∧ 0b0000001110011 < 2 ^ 13)

theorem EncodesWithin.bm1024 : EncodesWithin.Statement .bm1024 := (by decide : 1 ≤ 13 ∧ 13 ≤ 24 ∧ 0b0000001110100 < 2 ^ 13)

theorem EncodesWithin.bm1088 : EncodesWithin.Statement .bm1088 := (by decide : 1 ≤ 13 ∧ 13 ≤ 24 ∧ 0b0000001110101 < 2 ^ 13)

theorem EncodesWithin.bm1152 : EncodesWithin.Statement .bm1152 := (by decide : 1 ≤ 13 ∧ 13 ≤ 24 ∧ 0b0000001110110 < 2 ^ 13)

theorem EncodesWithin.bm1216 : EncodesWithin.Statement .bm1216 := (by decide : 1 ≤ 13 ∧ 13 ≤ 24 ∧ 0b0000001110111 < 2 ^ 13)

theorem EncodesWithin.bm1280 : EncodesWithin.Statement .bm1280 := (by decide : 1 ≤ 13 ∧ 13 ≤ 24 ∧ 0b0000001010010 < 2 ^ 13)

theorem EncodesWithin.bm1344 : EncodesWithin.Statement .bm1344 := (by decide : 1 ≤ 13 ∧ 13 ≤ 24 ∧ 0b0000001010011 < 2 ^ 13)

theorem EncodesWithin.bm1408 : EncodesWithin.Statement .bm1408 := (by decide : 1 ≤ 13 ∧ 13 ≤ 24 ∧ 0b0000001010100 < 2 ^ 13)

theorem EncodesWithin.bm1472 : EncodesWithin.Statement .bm1472 := (by decide : 1 ≤ 13 ∧ 13 ≤ 24 ∧ 0b0000001010101 < 2 ^ 13)

theorem EncodesWithin.bm1536 : EncodesWithin.Statement .bm1536 := (by decide : 1 ≤ 13 ∧ 13 ≤ 24 ∧ 0b0000001011010 < 2 ^ 13)

theorem EncodesWithin.bm1600 : EncodesWithin.Statement .bm1600 := (by decide : 1 ≤ 13 ∧ 13 ≤ 24 ∧ 0b0000001011011 < 2 ^ 13)

theorem EncodesWithin.bm1664 : EncodesWithin.Statement .bm1664 := (by decide : 1 ≤ 13 ∧ 13 ≤ 24 ∧ 0b0000001100100 < 2 ^ 13)

theorem EncodesWithin.bm1728 : EncodesWithin.Statement .bm1728 := (by decide : 1 ≤ 13 ∧ 13 ≤ 24 ∧ 0b0000001100101 < 2 ^ 13)

theorem EncodesWithin.bx1792 : EncodesWithin.Statement .bx1792 := (by decide : 1 ≤ 11 ∧ 11 ≤ 24 ∧ 0b00000001000 < 2 ^ 11)

theorem EncodesWithin.bx1856 : EncodesWithin.Statement .bx1856 := (by decide : 1 ≤ 11 ∧ 11 ≤ 24 ∧ 0b00000001100 < 2 ^ 11)

theorem EncodesWithin.bx1920 : EncodesWithin.Statement .bx1920 := (by decide : 1 ≤ 11 ∧ 11 ≤ 24 ∧ 0b00000001101 < 2 ^ 11)

theorem EncodesWithin.bx1984 : EncodesWithin.Statement .bx1984 := (by decide : 1 ≤ 12 ∧ 12 ≤ 24 ∧ 0b000000010010 < 2 ^ 12)

theorem EncodesWithin.bx2048 : EncodesWithin.Statement .bx2048 := (by decide : 1 ≤ 12 ∧ 12 ≤ 24 ∧ 0b000000010011 < 2 ^ 12)

theorem EncodesWithin.bx2112 : EncodesWithin.Statement .bx2112 := (by decide : 1 ≤ 12 ∧ 12 ≤ 24 ∧ 0b000000010100 < 2 ^ 12)

theorem EncodesWithin.bx2176 : EncodesWithin.Statement .bx2176 := (by decide : 1 ≤ 12 ∧ 12 ≤ 24 ∧ 0b000000010101 < 2 ^ 12)

theorem EncodesWithin.bx2240 : EncodesWithin.Statement .bx2240 := (by decide : 1 ≤ 12 ∧ 12 ≤ 24 ∧ 0b000000010110 < 2 ^ 12)

theorem EncodesWithin.bx2304 : EncodesWithin.Statement .bx2304 := (by decide : 1 ≤ 12 ∧ 12 ≤ 24 ∧ 0b000000010111 < 2 ^ 12)

theorem EncodesWithin.bx2368 : EncodesWithin.Statement .bx2368 := (by decide : 1 ≤ 12 ∧ 12 ≤ 24 ∧ 0b000000011100 < 2 ^ 12)

theorem EncodesWithin.bx2432 : EncodesWithin.Statement .bx2432 := (by decide : 1 ≤ 12 ∧ 12 ≤ 24 ∧ 0b000000011101 < 2 ^ 12)

theorem EncodesWithin.bx2496 : EncodesWithin.Statement .bx2496 := (by decide : 1 ≤ 12 ∧ 12 ≤ 24 ∧ 0b000000011110 < 2 ^ 12)

theorem EncodesWithin.bx2560 : EncodesWithin.Statement .bx2560 := (by decide : 1 ≤ 12 ∧ 12 ≤ 24 ∧ 0b000000011111 < 2 ^ 12)

end Sys2Proof.Laws
end

