-- ==== Sys2Proof/Tests/Slice0.lean ====
section
/-! SUPPORT. Own tests: the smoke test of the well-formedness checks, the decoding of every row of the spec's tables from words written
out from them, one-step tests with the results of spec 95_test_vectors.md, and for each statement with hypotheses a witness
that meets them.
-/
set_option Elab.async false

namespace Sys2Proof.Tests
open Sys2Proof.Machine

/-! ## Well-formedness: each check refuses an ill-formed term -/

theorem test_wf_refuses_long_stream (s : List Byte) (h : 4294967296 ≤ s.length) : (Instr.mmrInit s).wellFormed = false := by
  simp only [Instr.wellFormed, streamOperandOk, Nat.blt_eq, Bool.eq_false_iff, ne_eq]
  omega

theorem test_wf_refuses_bitmap_without_its_pixels :
    (Instr.jb2Cross 1 1 ⟨2, 2, [true]⟩ ⟨0, 0, 0, 0⟩).wellFormed = false := by decide

theorem test_wf_refuses_opcode_that_is_not_reserved :
    ((List.range 8).all fun n => !(Instr.reserved (BitVec.ofNat 8 (n + 1))).wellFormed) = true := by decide

theorem test_decode_refuses_bitmap_without_its_pixels :
    decode (.command ⟨0x05, .cross 1 1 ⟨2, 2, [true]⟩ ⟨0, 0, 0, 0⟩⟩) = .error (.operandRange 0x05) := by rfl

theorem test_decode_refuses_operands_of_another_type :
    decode (.command ⟨0x04, .value 3⟩) = .error (.operandType 0x04) := by rfl

theorem test_decode_refuses_unmatched_window : decode (.window [.white] 0x00ffffff) = .error .noMatch := by rfl

/-! ## Decoding: the words of spec/opcode_table.json (the code left-aligned in the 32-bit window) and the opcodes of
30_encoding.md R122 -/

/-- Every word of a list decodes, at the position of a codebook and with the bits after the code all 0 and all 1 (mask: the bits of the
code), to the instruction beside it. -/
def readsAll (books : List Book) (rows : List (BitVec 32 × BitVec 32 × Instr)) : Bool :=
  rows.all fun r => decide (decodeWindow books r.1 = some r.2.2) && decide (decodeWindow books (r.1 ||| ~~~r.2.1) = some r.2.2)

theorem test_decode_mode : readsAll [.mode, .esc]
    [(0x10000000, 0xf0000000, .p), (0x20000000, 0xe0000000, .h), (0x80000000, 0x80000000, .v0),
     (0x60000000, 0xe0000000, .vr1), (0x0c000000, 0xfc000000, .vr2), (0x06000000, 0xfe000000, .vr3),
     (0x40000000, 0xe0000000, .vl1), (0x08000000, 0xfc000000, .vl2), (0x04000000, 0xfe000000, .vl3)] = true := by decide +kernel

theorem test_decode_esc : readsAll [.mode, .esc]
    [(0x00100100, 0xffffff00, .eofb), (0x03c00000, 0xffc00000, .unc)] = true := by decide +kernel

theorem test_decode_unc : readsAll [.unc]
    [(0x80000000, 0x80000000, .u1), (0x40000000, 0xc0000000, .u01), (0x20000000, 0xe0000000, .u001),
     (0x10000000, 0xf0000000, .u0001), (0x08000000, 0xf8000000, .u00001), (0x04000000, 0xfc000000, .u00000),
     (0x02000000, 0xff000000, .ux .white), (0x03000000, 0xff000000, .ux .black)] = true := by decide +kernel

theorem test_decode_white_terminating_1 : readsAll [.white]
    [(0x35000000, 0xff000000, .wt0), (0x1c000000, 0xfc000000, .wt1), (0x70000000, 0xf0000000, .wt2),
     (0x80000000, 0xf0000000, .wt3), (0xb0000000, 0xf0000000, .wt4), (0xc0000000, 0xf0000000, .wt5),
     (0xe0000000, 0xf0000000, .wt6), (0xf0000000, 0xf0000000, .wt7), (0x98000000, 0xf8000000, .wt8),
     (0xa0000000, 0xf8000000, .wt9), (0x38000000, 0xf8000000, .wt10), (0x40000000, 0xf8000000, .wt11),
     (0x20000000, 0xfc000000, .wt12), (0x0c000000, 0xfc000000, .wt13), (0xd0000000, 0xfc000000, .wt14),
     (0xd4000000, 0xfc000000, .wt15), (0xa8000000, 0xfc000000, .wt16), (0xac000000, 0xfc000000, .wt17),
     (0x4e000000, 0xfe000000, .wt18), (0x18000000, 0xfe000000, .wt19), (0x10000000, 0xfe000000, .wt20),
     (0x2e000000, 0xfe000000, .wt21), (0x06000000, 0xfe000000, .wt22), (0x08000000, 0xfe000000, .wt23),
     (0x50000000, 0xfe000000, .wt24), (0x56000000, 0xfe000000, .wt25), (0x26000000, 0xfe000000, .wt26)] = true := by decide +kernel

theorem test_decode_white_terminating_2 : readsAll [.white]
    [(0x48000000, 0xfe000000, .wt27), (0x30000000, 0xfe000000, .wt28), (0x02000000, 0xff000000, .wt29),
     (0x03000000, 0xff000000, .wt30), (0x1a000000, 0xff000000, .wt31), (0x1b000000, 0xff000000, .wt32),
     (0x12000000, 0xff000000, .wt33), (0x13000000, 0xff000000, .wt34), (0x14000000, 0xff000000, .wt35),
     (0x15000000, 0xff000000, .wt36), (0x16000000, 0xff000000, .wt37), (0x17000000, 0xff000000, .wt38),
     (0x28000000, 0xff000000, .wt39), (0x29000000, 0xff000000, .wt40), (0x2a000000, 0xff000000, .wt41),
     (0x2b000000, 0xff000000, .wt42), (0x2c000000, 0xff000000, .wt43), (0x2d000000, 0xff000000, .wt44),
     (0x04000000, 0xff000000, .wt45), (0x05000000, 0xff000000, .wt46), (0x0a000000, 0xff000000, .wt47),
     (0x0b000000, 0xff000000, .wt48), (0x52000000, 0xff000000, .wt49), (0x53000000, 0xff000000, .wt50),
     (0x54000000, 0xff000000, .wt51), (0x55000000, 0xff000000, .wt52), (0x24000000, 0xff000000, .wt53)] = true := by decide +kernel

theorem test_decode_white_terminating_3 : readsAll [.white]
    [(0x25000000, 0xff000000, .wt54), (0x58000000, 0xff000000, .wt55), (0x59000000, 0xff000000, .wt56),
     (0x5a000000, 0xff000000, .wt57), (0x5b000000, 0xff000000, .wt58), (0x4a000000, 0xff000000, .wt59),
     (0x4b000000, 0xff000000, .wt60), (0x32000000, 0xff000000, .wt61), (0x33000000, 0xff000000, .wt62),
     (0x34000000, 0xff000000, .wt63)] = true := by decide +kernel

theorem test_decode_white_makeup_1 : readsAll [.white]
    [(0xd8000000, 0xf8000000, .wm64), (0x90000000, 0xf8000000, .wm128), (0x5c000000, 0xfc000000, .wm192),
     (0x6e000000, 0xfe000000, .wm256), (0x36000000, 0xff000000, .wm320), (0x37000000, 0xff000000, .wm384),
     (0x64000000, 0xff000000, .wm448), (0x65000000, 0xff000000, .wm512), (0x68000000, 0xff000000, .wm576),
     (0x67000000, 0xff000000, .wm640), (0x66000000, 0xff800000, .wm704), (0x66800000, 0xff800000, .wm768),
     (0x69000000, 0xff800000, .wm832), (0x69800000, 0xff800000, .wm896), (0x6a000000, 0xff800000, .wm960),
     (0x6a800000, 0xff800000, .wm1024), (0x6b000000, 0xff800000, .wm1088), (0x6b800000, 0xff800000, .wm1152),
     (0x6c000000, 0xff800000, .wm1216), (0x6c800000, 0xff800000, .wm1280), (0x6d000000, 0xff800000, .wm1344),
     (0x6d800000, 0xff800000, .wm1408), (0x4c000000, 0xff800000, .wm1472), (0x4c800000, 0xff800000, .wm1536),
     (0x4d000000, 0xff800000, .wm1600), (0x60000000, 0xfc000000, .wm1664), (0x4d800000, 0xff800000, .wm1728)] = true := by decide +kernel

theorem test_decode_white_makeup_2 : readsAll [.white]
    [(0x01000000, 0xffe00000, .wx1792), (0x01800000, 0xffe00000, .wx1856), (0x01a00000, 0xffe00000, .wx1920),
     (0x01200000, 0xfff00000, .wx1984), (0x01300000, 0xfff00000, .wx2048), (0x01400000, 0xfff00000, .wx2112),
     (0x01500000, 0xfff00000, .wx2176), (0x01600000, 0xfff00000, .wx2240), (0x01700000, 0xfff00000, .wx2304),
     (0x01c00000, 0xfff00000, .wx2368), (0x01d00000, 0xfff00000, .wx2432), (0x01e00000, 0xfff00000, .wx2496),
     (0x01f00000, 0xfff00000, .wx2560)] = true := by decide +kernel

theorem test_decode_black_terminating_1 : readsAll [.black]
    [(0x0dc00000, 0xffc00000, .bt0), (0x40000000, 0xe0000000, .bt1), (0xc0000000, 0xc0000000, .bt2),
     (0x80000000, 0xc0000000, .bt3), (0x60000000, 0xe0000000, .bt4), (0x30000000, 0xf0000000, .bt5),
     (0x20000000, 0xf0000000, .bt6), (0x18000000, 0xf8000000, .bt7), (0x14000000, 0xfc000000, .bt8),
     (0x10000000, 0xfc000000, .bt9), (0x08000000, 0xfe000000, .bt10), (0x0a000000, 0xfe000000, .bt11),
     (0x0e000000, 0xfe000000, .bt12), (0x04000000, 0xff000000, .bt13), (0x07000000, 0xff000000, .bt14),
     (0x0c000000, 0xff800000, .bt15), (0x05c00000, 0xffc00000, .bt16), (0x06000000, 0xffc00000, .bt17),
     (0x02000000, 0xffc00000, .bt18), (0x0ce00000, 0xffe00000, .bt19), (0x0d000000, 0xffe00000, .bt20),
     (0x0d800000, 0xffe00000, .bt21), (0x06e00000, 0xffe00000, .bt22), (0x05000000, 0xffe00000, .bt23),
     (0x02e00000, 0xffe00000, .bt24), (0x03000000, 0xffe00000, .bt25), (0x0ca00000, 0xfff00000, .bt26)] = true := by decide +kernel

theorem test_decode_black_terminating_2 : readsAll [.black]
    [(0x0cb00000, 0xfff00000, .bt27), (0x0cc00000, 0xfff00000, .bt28), (0x0cd00000, 0xfff00000, .bt29),
     (0x06800000, 0xfff00000, .bt30), (0x06900000, 0xfff00000, .bt31), (0x06a00000, 0xfff00000, .bt32),
     (0x06b00000, 0xfff00000, .bt33), (0x0d200000, 0xfff00000, .bt34), (0x0d300000, 0xfff00000, .bt35),
     (0x0d400000, 0xfff00000, .bt36), (0x0d500000, 0xfff00000, .bt37), (0x0d600000, 0xfff00000, .bt38),
     (0x0d700000, 0xfff00000, .bt39), (0x06c00000, 0xfff00000, .bt40), (0x06d00000, 0xfff00000, .bt41),
     (0x0da00000, 0xfff00000, .bt42), (0x0db00000, 0xfff00000, .bt43), (0x05400000, 0xfff00000, .bt44),
     (0x05500000, 0xfff00000, .bt45), (0x05600000, 0xfff00000, .bt46), (0x05700000, 0xfff00000, .bt47),
     (0x06400000, 0xfff00000, .bt48), (0x06500000, 0xfff00000, .bt49), (0x05200000, 0xfff00000, .bt50),
     (0x05300000, 0xfff00000, .bt51), (0x02400000, 0xfff00000, .bt52), (0x03700000, 0xfff00000, .bt53)] = true := by decide +kernel

theorem test_decode_black_terminating_3 : readsAll [.black]
    [(0x03800000, 0xfff00000, .bt54), (0x02700000, 0xfff00000, .bt55), (0x02800000, 0xfff00000, .bt56),
     (0x05800000, 0xfff00000, .bt57), (0x05900000, 0xfff00000, .bt58), (0x02b00000, 0xfff00000, .bt59),
     (0x02c00000, 0xfff00000, .bt60), (0x05a00000, 0xfff00000, .bt61), (0x06600000, 0xfff00000, .bt62),
     (0x06700000, 0xfff00000, .bt63)] = true := by decide +kernel

theorem test_decode_black_makeup_1 : readsAll [.black]
    [(0x03c00000, 0xffc00000, .bm64), (0x0c800000, 0xfff00000, .bm128), (0x0c900000, 0xfff00000, .bm192),
     (0x05b00000, 0xfff00000, .bm256), (0x03300000, 0xfff00000, .bm320), (0x03400000, 0xfff00000, .bm384),
     (0x03500000, 0xfff00000, .bm448), (0x03600000, 0xfff80000, .bm512), (0x03680000, 0xfff80000, .bm576),
     (0x02500000, 0xfff80000, .bm640), (0x02580000, 0xfff80000, .bm704), (0x02600000, 0xfff80000, .bm768),
     (0x02680000, 0xfff80000, .bm832), (0x03900000, 0xfff80000, .bm896), (0x03980000, 0xfff80000, .bm960),
     (0x03a00000, 0xfff80000, .bm1024), (0x03a80000, 0xfff80000, .bm1088), (0x03b00000, 0xfff80000, .bm1152),
     (0x03b80000, 0xfff80000, .bm1216), (0x02900000, 0xfff80000, .bm1280), (0x02980000, 0xfff80000, .bm1344),
     (0x02a00000, 0xfff80000, .bm1408), (0x02a80000, 0xfff80000, .bm1472), (0x02d00000, 0xfff80000, .bm1536),
     (0x02d80000, 0xfff80000, .bm1600), (0x03200000, 0xfff80000, .bm1664), (0x03280000, 0xfff80000, .bm1728)] = true := by decide +kernel

theorem test_decode_black_makeup_2 : readsAll [.black]
    [(0x01000000, 0xffe00000, .bx1792), (0x01800000, 0xffe00000, .bx1856), (0x01a00000, 0xffe00000, .bx1920),
     (0x01200000, 0xfff00000, .bx1984), (0x01300000, 0xfff00000, .bx2048), (0x01400000, 0xfff00000, .bx2112),
     (0x01500000, 0xfff00000, .bx2176), (0x01600000, 0xfff00000, .bx2240), (0x01700000, 0xfff00000, .bx2304),
     (0x01c00000, 0xfff00000, .bx2368), (0x01d00000, 0xfff00000, .bx2432), (0x01e00000, 0xfff00000, .bx2496),
     (0x01f00000, 0xfff00000, .bx2560)] = true := by decide +kernel

theorem test_decode_commands :
    decode (.command ⟨0x01, .bytes [0x4d]⟩) = .ok (.mmrInit [0x4d]) ∧ decode (.command ⟨0x02, .none⟩) = .ok .mmrScanruns ∧
    decode (.command ⟨0x03, .none⟩) = .ok .mmrScanrle ∧ decode (.command ⟨0x04, .size 3 2⟩) = .ok (.jb2Direct 3 2) ∧
    decode (.command ⟨0x05, .cross 3 2 Bitmap.empty ⟨0, 1, 2, 4⟩⟩) = .ok (.jb2Cross 3 2 Bitmap.empty ⟨0, 1, 2, 4⟩) ∧
    decode (.command ⟨0x06, .none⟩) = .ok .ctxInit ∧ decode (.command ⟨0x07, .value 2⟩) = .ok (.writeCtrl 2) ∧
    decode (.command ⟨0x08, .regno 0x10⟩) = .ok (.readReg 0x10) := by
  refine ⟨?_, ?_, ?_, ?_, ?_, ?_, ?_, ?_⟩ <;> rfl

theorem test_decode_reserved_opcodes :
    decode (.command ⟨0x00, .none⟩) = .ok (.reserved 0x00) ∧ decode (.command ⟨0x09, .value 1⟩) = .ok (.reserved 0x09) ∧
    decode (.command ⟨0xff, .none⟩) = .ok (.reserved 0xff) := by
  refine ⟨?_, ?_, ?_⟩ <;> rfl

/-- The header bytes of spec 95_test_vectors.md §V-ENC.4. -/
theorem test_header_bytes :
    headerBytes 8 8 false none = [0x4d, 0x4d, 0x52, 0x00, 0x00, 0x08, 0x00, 0x08] ∧
    headerBytes 4 3 true (some 2) = [0x4d, 0x4d, 0x52, 0x03, 0x00, 0x04, 0x00, 0x03, 0x00, 0x02] ∧
    headerBytes 20000 1 false none = [0x4d, 0x4d, 0x52, 0x00, 0x4e, 0x20, 0x00, 0x01] := by decide

/-- Run expansions of §V-ENC.2. -/
theorem test_run_expansions :
    expandRun .white 0 = [.wt0] ∧ expandRun .black 1728 = [.bm1728, .bt0] ∧ expandRun .white 2623 = [.wx2560, .wt63] ∧
    expandRun .black 2624 = [.bx2560, .bm64, .bt0] ∧ expandRun .white 5200 = [.wx2560, .wx2560, .wm64, .wt16] := by
  decide +kernel

/-- The data bytes of a row of §V-MMR.1, assembled. -/
theorem test_assemble : assemble [.h, .wt2, .bt3, .v0, .unc, .u001, .ux .black, .v0, .v0] = [0x2f, 0x40, 0xf2, 0x07, 0x80] := by
  decide +kernel

/-! ## One step -/

/-- The next state of an outcome, if it is one. -/
def nextOf : Result → Option State
  | .next s => some s
  | _ => none

theorem exists_next {o : Result} (h : (nextOf o).isSome = true) : ∃ t, o = .next t := by
  cases o with
  | next t => exact ⟨t, rfl⟩
  | fault r => cases h
  | refused r => cases h

/-- The second row of §V-MMR.1: W = 8, the reference line (2, 3, 3), at a position of the row. -/
def secondRow (pos : Position) (data : List Byte) : State :=
  { State.reset with
    mmrState := .active
    width := 8
    height := 2
    rps := 2
    lineno := 1
    striplineno := 1
    ref := [2, 3, 3]
    sdata := data
    stream := data
    b1 := 2
    pr := 1
    pos := pos }

/-- What a row's codeword leaves to read: A0, the pending run, the runs so far, BITPOS, B1 and PR. -/
def rowView (o : Result) : Option (Int × Int × List Nat × Nat × Int × Nat) :=
  (nextOf o).map fun t => (t.a0, t.rle, t.cur, t.bitpos.toNat, t.b1, t.pr)

/-- What a command leaves to read: its result and STATUS. -/
def resultView (o : Result) : Option (Option CmdResult × BitVec 32) := (nextOf o).map fun t => (t.result, t.statusReg)

/-- `V0` of the row `V0 V0 V0`: the run 2, then the transition at 5 (§V-MMR.1). -/
theorem test_v0 : rowView (step (secondRow .mode [0xe0])) = some (2, 0, [2], 1, 5, 2) := by decide +kernel

/-- `VR1` of the row that returns (3, 2, 3). -/
theorem test_vr1 : rowView (step (secondRow .mode [0x78])) = some (3, 0, [3], 3, 5, 2) := by decide +kernel

/-- `VR2` of the row that returns (4, 1, 3). -/
theorem test_vr2 : rowView (step (secondRow .mode [0x0f])) = some (4, 0, [4], 6, 5, 2) := by decide +kernel

/-- `VR3` of the row that returns (5, 3): B1 = 5 is not right of A0 = 5, so the reference moves on to W. -/
theorem test_vr3 : rowView (step (secondRow .mode [0x07])) = some (5, 0, [5], 7, 8, 4) := by decide +kernel

/-- `VL1` of the row that returns (1, 4, 3): the pointer steps back and is resynchronised to the transition at 5. -/
theorem test_vl1 : rowView (step (secondRow .mode [0x58])) = some (1, 0, [1], 3, 5, 2) := by decide +kernel

/-- `VL2` of the row that returns (0, 5, 3). -/
theorem test_vl2 : rowView (step (secondRow .mode [0x0b])) = some (0, 0, [0], 6, 5, 2) := by decide +kernel

/-- `VL3` from b1 = 2 would place a1 at -1: a negative run (as M3). -/
theorem test_vl3_negative_run : resultView (step (secondRow .mode [0x04])) =
    some (some (.err .corruptMMRStream), 0x2023) := by decide +kernel

/-- `P` of the row `P V0`: A0 = b2 = 5, five pixels pending, no run. -/
theorem test_pass : rowView (step (secondRow .mode [0x18])) = some (5, 5, [], 4, 8, 3) := by decide +kernel

/-- `H` reads nothing but its three bits. -/
theorem test_horizontal : (nextOf (step (secondRow .mode [0x2d, 0xb0]))).map (fun t => (t.pos, t.bitpos.toNat, t.a0)) =
    some (.run1, 3, 0) := by decide +kernel

/-- EOFB in the row: the row counter becomes H, nothing is consumed, NoLine (M14). -/
theorem test_eofb : (nextOf (step (secondRow .mode [0x00, 0x10, 0x01]))).map
    (fun t => (t.result, t.lineno.toNat, t.bitpos.toNat, t.mmrState)) = some (some .noLine, 2, 0, .done) := by decide +kernel

/-- The uncompressed entry. -/
theorem test_unc : (nextOf (step (secondRow .mode [0x03, 0xf2]))).map (fun t => (t.pos, t.bitpos.toNat)) =
    some (.unc, 10) := by decide +kernel

/-- `U001` of the row that returns (2, 3, 3): two white pixels end as a run, one black is pending. -/
theorem test_u001 : rowView (step (secondRow .unc [0x20])) = some (3, 1, [2], 3, 2, 1) := by decide +kernel

/-- `U1`, first in its row: the white run 0, one black pending. -/
theorem test_u1 : rowView (step (secondRow .unc [0x80])) = some (1, 1, [0], 1, 2, 1) := by decide +kernel

theorem test_u01 : rowView (step (secondRow .unc [0x40])) = some (2, 1, [1], 2, 2, 1) := by decide +kernel

theorem test_u0001 : rowView (step (secondRow .unc [0x10])) = some (4, 1, [3], 4, 2, 1) := by decide +kernel

theorem test_u00001 : rowView (step (secondRow .unc [0x08])) = some (5, 1, [4], 5, 2, 1) := by decide +kernel

theorem test_u00000 : rowView (step (secondRow .unc [0x04])) = some (5, 5, [], 6, 2, 1) := by decide +kernel

/-- `UX1` of the row `UNC UX1 V0 V0`: the white run 0 is emitted; black is next, at the transition 5. -/
theorem test_ux1 : rowView (step (secondRow .unc [0x03])) = some (0, 0, [0], 8, 5, 2) := by decide +kernel

theorem test_ux0 : rowView (step (secondRow .unc [0x02])) = some (0, 0, [], 8, 2, 1) := by decide +kernel

/-- Every white run codeword adds its value to the position and, at the first run, either stays pending or is emitted. -/
theorem test_white_runs : (whiteRom.all fun r => decide
    (rowView (exec r.instr (secondRow .run1 [0, 0])) =
      some (if r.value < 64 then ((r.value : Int), 0, [r.value], r.len, 2, 1) else ((r.value : Int), (r.value : Int), [], r.len, 2, 1)))) =
    true := by decide +kernel

/-- The same for the black ones, where a black run is read. -/
theorem test_black_runs : (blackRom.all fun r => decide
    (rowView (exec r.instr { secondRow .run1 [0, 0] with color := .black }) =
      some (if r.value < 64 then ((r.value : Int), 0, [r.value], r.len, 2, 1) else ((r.value : Int), (r.value : Int), [], r.len, 2, 1)))) =
    true := by decide +kernel

/-- `B5` after `H W5` with W = 8 and the clamp: (5, 3) (M6). -/
theorem test_clamp : (nextOf (step { secondRow .run2 [0x30] with ovrClamp := true, a0 := 5, cur := [5] })).map
    (fun t => (t.result, t.ref)) = some (some (.ok (.runs [5, 3])), [5, 3]) := by decide +kernel

/-- The same without the clamp (M5). -/
theorem test_overshoot : resultView (step { secondRow .run2 [0x30] with a0 := 5, cur := [5] }) =
    some (some (.err .corruptMMRStream), 0x2023) := by decide +kernel

/-- M4: the run that would be the fifth of a row of W = 2. -/
theorem test_run_capacity : (nextOf (step { secondRow .run1 [0x35] with width := 2, cur := [0, 0, 0, 0] })).map
    (fun t => (t.result, t.bitpos.toNat, t.errbit.toNat)) = some (some (.err .corruptMMRStream), 8, 0) := by decide +kernel

/-- The trailing-run check on V0: (8) (M8), and on VR1 (M9). -/
theorem test_trailing_v0 : (nextOf (step { secondRow .trailing [0x80] with a0 := 8, rle := 8 })).map (fun t => t.result) =
    some (some (.ok (.runs [8]))) := by decide +kernel

theorem test_trailing_vr1 : resultView (step { secondRow .trailing [0x60] with a0 := 8, rle := 8 }) =
    some (some (.err .corruptMMRStream), 0x2023) := by decide +kernel

/-- The RLE units of §V-ENC.3 and the row of M24. -/
theorem test_rle : encodeRun 191 = [0xbf] ∧ encodeRun 192 = [0xc0, 0xc0] ∧ encodeRun 16383 = [0xff, 0xff] ∧
    encodeRun 16384 = [0xff, 0xff, 0x00, 0x01] ∧ encodeRun 20000 = [0xff, 0xff, 0x00, 0xce, 0x21] ∧
    encodeRow 8 (invertRuns [3, 5]) = [0x00, 0x03, 0x05] := by decide +kernel

/-- MMR_INIT of M1, of M27 (the magic) and of M29 (W = 0). -/
theorem test_mmr_init : (nextOf (exec (.mmrInit [0x4d, 0x4d, 0x52, 0, 0, 8, 0, 8, 0xff]) State.reset)).map
    (fun t => (t.statusReg, t.width, t.ref, t.sdata)) = some (1, 8, [8], [0xff]) := by decide +kernel

theorem test_mmr_init_errors :
    resultView (exec (.mmrInit [0x4d, 0x4d, 0x53, 0, 0, 8, 0, 8, 0xff]) State.reset) =
      some (some (.err .badMMRHeader), 0x7073) ∧
    (nextOf (exec (.mmrInit [0x4d, 0x4d, 0x52, 0, 0, 0, 0, 8, 0xff]) State.reset)).map (fun t => (t.errbit, t.height)) =
      some (32, 8) := by decide +kernel

/-- The header of M33 after an earlier stream: no register keeps that stream's value (70_reset_and_hazards.md R343). -/
theorem test_mmr_init_forgets_earlier_stream :
    (nextOf (exec (.mmrInit [0x4d, 0x4d, 0x52, 0, 0]) { secondRow .idle [] with flags := 1 })).map
      (fun t => (t.width, t.height, t.flags, t.rps, t.errbit)) = some (0, 0, 0, 0, 40) := by decide +kernel

/-- K1, K2: a scan from reset. -/
theorem test_scan_from_reset : resultView (exec .mmrScanruns State.reset) = some (some (.err .noStartRecord), 0x6000) ∧
    resultView (exec .mmrScanrle State.reset) = some (some (.err .noStartRecord), 0x6000) := by decide +kernel

/-- A scan of an ACTIVE stream starts a row. -/
theorem test_scan_starts_row : rowView (exec .mmrScanrle (secondRow .idle [0xff])) = some (0, 0, [], 0, 2, 1) := by decide +kernel

/-- MMR_SCANRLE clears OUT at its start, also where it returns NoLine (20_memory.md R74); MMR_SCANRUNS leaves it. -/
theorem test_scanrle_clears_out :
    let s : State := { secondRow .idle [0xff] with out := [0x08] }
    (nextOf (exec .mmrScanrle s)).map (fun t => t.out) = some [] ∧
    (nextOf (exec .mmrScanrle { s with mmrState := .done })).map (fun t => (t.out, t.result)) = some ([], some .noLine) ∧
    (nextOf (exec .mmrScanruns { s with mmrState := .done })).map (fun t => t.out) = some [0x08] := by decide +kernel

/-- K5, K6: READ_REG. -/
theorem test_read_reg : resultView (exec (.readReg 0x10) State.reset) = some (some (.err .illegalCommand), 0x8000) ∧
    resultView (exec (.readReg 0x01) State.reset) = some (some (.ok (.value 0)), 0) := by decide +kernel

/-- K7, K8: WRITE_CTRL. -/
theorem test_write_ctrl : (nextOf (exec (.writeCtrl 0xffffffff) State.reset)).map State.ctrlReg = some 1 ∧
    (nextOf (exec (.writeCtrl 2) { State.reset with ovrClamp := true })).map State.ctrlReg = some 0 := by decide +kernel

/-- K9, and the clearing of the JB2 failure (J11). -/
theorem test_ctx_init : resultView (exec .ctxInit { State.reset with
    jb2Failed := true
    jb2Err := .corruptJB2Stream
    lastErr := .corruptJB2Stream }) = some (some (.ok .unit), 0x3000) := by decide +kernel

/-- K3. -/
theorem test_reserved : resultView (exec (.reserved 0x09) State.reset) = some (some (.err .illegalCommand), 0x8000) := by
  decide +kernel

/-- An oracle that answers from a list and keeps the indices of its requests in base 2048 above the count. -/
def listZp (answers : List ZpResponse) : Zp := fun z _ idx c =>
  some (answers.getD (z % 64) .endOfStream, (z / 64 * 2048 + idx.toNat) * 64 + z % 64 + 1, c)

/-- The requests that `listZp` has kept, first one first. -/
def requests : Nat → Nat → List Nat
  | 0, _ => []
  | n + 1, z => requests n (z / 2048) ++ [z % 2048]

/-- How a bitmap loop ended: at the end or at a request, its requests, X, Y and TB's pixels (bottom row first). -/
def loopView (n : Nat) : Except ZpStop State → Bool × List Nat × Int × Int × List Bool
  | .ok s => (true, requests n (s.zp / 64), s.x, s.y, s.tb.px)
  | .error (.endOfStream s) => (false, requests n (s.zp / 64), s.x, s.y, s.tb.px)
  | .error (.noAnswer s) => (false, requests n (s.zp / 64), s.x, s.y, s.tb.px)

/-- J2. -/
theorem test_direct_loop : loopView 6 (decodeBitmap (listZp [.bit true, .bit false, .bit true, .bit true, .bit true, .bit false]) .d 3 2
      { State.reset with zp := 0 }) =
    (true, [0x000, 0x001, 0x002, 0x014, 0x029, 0x053], 3, -1, [true, true, false, true, false, true]) := by decide +kernel

/-- J14: the end of the stream at the pixel (1, 0). -/
theorem test_direct_loop_ends : loopView 5 (decodeBitmap (listZp [.bit true, .bit true, .bit false, .bit true]) .d 3 2
      { State.reset with zp := 0 }) =
    (false, [0x000, 0x001, 0x003, 0x018, 0x031], 1, 0, [true, false, false, true, true, false]) := by decide +kernel

/-- An oracle that never answers (93_implementation_defined.md U14): the loop stops at the first pixel's request. -/
def silentZp : Zp := fun _ _ _ _ => none

theorem test_direct_loop_waits : loopView 0 (decodeBitmap silentZp .d 3 2 { State.reset with zp := 0 }) =
    (false, [], 0, 1, [false, false, false, false, false, false]) := by decide +kernel

/-- The wait does not end, and a reset stays with the host (70_reset_and_hazards.md R340, R349). -/
theorem test_zp_wait : step (waitForZp { State.reset with inbox := [.reset] }) =
    .next (waitForZp { State.reset with inbox := [.reset] }) := rfl

/-- The plus sign of §V-JB2.2. -/
def plus : Bitmap := ⟨3, 3, [false, true, false, true, true, true, false, true, false]⟩

/-- The alignment row dw = dh = 2, box 0, 0, 2, 2 of §V-JB2.2, and the row with an inverted box. -/
theorem test_cross_loop : loopView 4 (decodeBitmap (listZp [.bit false, .bit false, .bit false, .bit false]) .x 2 2
      (holdModel 2 2 plus ⟨0, 0, 2, 2⟩ { State.reset with zp := 0 })) =
    (true, [0x017, 0x026, 0x07a, 0x034], 2, -1, [false, false, false, false]) := by decide +kernel

theorem test_cross_alignment : alignOffset 3 2 0 = -1 ∧ alignOffset 2 (-3) 0 = -2 ∧ alignOffset 5 0 0 = -2 := by decide

/-- J16, J17: a bitmap without pixels asks nothing. -/
theorem test_empty_bitmaps : (nextOf (exec (.jb2Direct 0 0) State.reset)).map (fun t => (t.result, t.tb)) =
      some (some (.ok .unit), Bitmap.empty) ∧
    (nextOf (exec (.jb2Cross 0 0 plus ⟨0, 0, 2, 2⟩) State.reset)).map (fun t => (t.result, t.model)) =
      some (some (.ok .unit), none) := by decide +kernel

/-- The reset event, and the wait with nothing issued. -/
theorem test_reset_event : (nextOf (step { State.reset with inbox := [.reset, .zpStart 7], mmrState := .done })).map
    (fun t => (t.mmrState, t.inbox)) = some (.unconf, [.zpStart 7]) := by decide +kernel

theorem test_zp_start : (nextOf (step { State.reset with inbox := [.zpStart 7] })).map (fun t => (t.zp, t.inbox)) =
    some (7, []) := by decide +kernel

/-- A row's word placed where the fetch finds it runs as the first instruction. -/
theorem test_with_fetch_word : (nextOf (step (State.reset.withFetchWord 32 0x80000000))).map (fun t => t.ref) =
      some [65535] ∧
    resultView (step (State.reset.withFetchWord 8 0x09)) = some (some (.err .illegalCommand), 0x8000) := by decide +kernel

/-! ## Witnesses: for each statement with hypotheses, a concrete state and operands that meet all of them -/

theorem witness_DecodeEncodeAgree :
    (Instr.jb2Cross 3 2 plus ⟨0, 0, 2, 2⟩).wellFormed = true ∧ (Instr.reserved 0xff).wellFormed = true ∧
    encode .vr3 = .codeword .mode 0b0000011 7 ∧ topBits 7 0x07ffffff#32 = 0b0000011 := by decide

theorem witness_StepRunsDecodedInstruction_command :
    let s : State := { State.reset with inbox := [.command ⟨0x07, .value 1⟩] }
    s.pos = .idle ∧ s.inbox = .command ⟨0x07, .value 1⟩ :: [] ∧ decode (.command ⟨0x07, .value 1⟩) = .ok (.writeCtrl 1) :=
  ⟨rfl, rfl, rfl⟩

theorem witness_StepRunsDecodedInstruction_codeword :
    let s := secondRow .mode [0xe0]
    s.books = some [.mode, .esc] ∧ decode (.window [.mode, .esc] s.window) = .ok .v0 :=
  ⟨rfl, rfl⟩

theorem witness_StepRunsDecodedInstruction_wait : State.reset.pos = .idle ∧ State.reset.inbox = [] := ⟨rfl, rfl⟩

theorem witness_StepRunsDecodedInstruction_zp_wait : (waitForZp State.reset).pos = .zpWait := rfl

/-- A command that waits for ZP, with a command issued behind it. -/
theorem witness_BusyTakesNothingFromHost_zp_wait :
    let s := waitForZp { State.reset with inbox := [.command ⟨0x02, .none⟩] }
    s.pos ≠ .idle ∧ ∃ t, step s = .next t :=
  ⟨by decide, _, rfl⟩

theorem witness_BusyTakesNothingFromHost :
    let s := { secondRow .mode [0xe0] with inbox := [.reset] }
    s.pos ≠ .idle ∧ ∃ t, step s = .next t :=
  ⟨by decide, exists_next (by decide +kernel)⟩

theorem witness_ResetRestoresTable :
    let s : State := { secondRow .idle [0xe0] with inbox := [.reset] }
    s.pos = .idle ∧ s.inbox = .reset :: [] :=
  ⟨rfl, rfl⟩

theorem witness_PeekReadsStreamBits : 1 ≤ 1 ∧ 1 ≤ 32 ∧ 32 ≤ 32 := by decide

theorem witness_FailedLookupRaises_data :
    (secondRow .mode [0x01, 0xff]).books = some [.mode, .esc] ∧
    decodeWindow [.mode, .esc] (secondRow .mode [0x01, 0xff]).window = none := by decide +kernel

theorem witness_FailedLookupRaises_end :
    (secondRow .run2 []).books = some [.black] ∧ decodeWindow [.black] (secondRow .run2 []).window = none := by
  decide +kernel

theorem witness_CodewordAdvancesByItsLength :
    encode .v0 = .codeword .mode 1 1 ∧ CursorOk (secondRow .mode [0xe0]) ∧
    ∃ t, exec .v0 (secondRow .mode [0xe0]) = .next t ∧ t.mmrState ≠ .failed :=
  ⟨rfl, by decide, ⟨_, rfl, by decide⟩⟩

theorem witness_CodewordAdvancesByItsLength_eofb :
    encode .eofb = .codeword .esc 0x001001 24 ∧ CursorOk (secondRow .mode [0x00, 0x10, 0x01]) ∧
    ∃ t, exec .eofb (secondRow .mode [0x00, 0x10, 0x01]) = .next t ∧ t.mmrState ≠ .failed :=
  ⟨rfl, by decide, ⟨_, rfl, by decide⟩⟩

theorem witness_StepConsumesOrEnds :
    let s := secondRow .mode [0xe0]
    CursorOk s ∧ s.pos ≠ .idle ∧ s.pos ≠ .zpWait ∧ ∃ t, step s = .next t :=
  ⟨by decide, by decide, by decide, exists_next (by decide +kernel)⟩

theorem witness_StepConsumesOrEnds_noAnswer : ∃ u, decodeBitmap silentZp .x 1 1 State.reset = .error (.noAnswer u) := ⟨_, rfl⟩

theorem witness_StepConsumesOrEnds_wait : (waitForZp State.reset).pos = .zpWait := rfl

theorem witness_MmrInitPlainChunk :
    State.reset.pos = .idle ∧ (8 : BitVec 16) ≠ 0 ∧ (0xffff : BitVec 16) ≠ 0 ∧ 8 + ([] : List Byte).length < 4294967296 := by
  decide

theorem witness_MmrInitStripedChunk :
    State.reset.pos = .idle ∧ (4 : BitVec 16) ≠ 0 ∧ (3 : BitVec 16) ≠ 0 ∧ (2 : BitVec 16) ≠ 0 ∧
    14 + ([0x23, 0xd8] : List Byte).length < 4294967296 := by decide

theorem witness_MmrInitRejectsBadHeader :
    State.reset.pos = .idle ∧ (0x4d#8 ++ 0x4d#8 ++ 0x53#8 ++ 0x00#8) &&& 0xfffffffc#32 ≠ 0x4d4d5200#32 ∧
    (0x4d#8 ++ 0x4d#8 ++ 0x52#8 ++ 0x04#8) &&& 0xfffffffc#32 ≠ 0x4d4d5200#32 ∧ (0 : BitVec 16) = 0 ∧
    (8 : BitVec 16) ≠ 0 := by decide

theorem witness_MmrInitCutShort_magic :
    State.reset.pos = .idle ∧ ([] : List Byte).length < 4 ∧ ([0x41, 0x42, 0x43] : List Byte).length < 4 := by decide

/-- A header with W = 0 that ends inside H. -/
theorem witness_MmrInitCutShort_header :
    State.reset.pos = .idle ∧ 0 < 8 ∧ 7 < 8 ∧
    (headerBytes 0 8 false none).take 7 = [0x4d, 0x4d, 0x52, 0, 0, 0, 0] := by decide

/-- A header with RPS = 0 that ends inside RPS, and a stripe length that lacks its last byte. -/
theorem witness_MmrInitCutShort_striped :
    State.reset.pos = .idle ∧ (4 : BitVec 16) ≠ 0 ∧ (9 < 10 ∨ (0 : BitVec 16) ≠ 0 ∧ 9 < 14) ∧
    (13 < 10 ∨ (2 : BitVec 16) ≠ 0 ∧ 13 < 14) := by decide

theorem witness_ScanByUnitState :
    (Instr.mmrScanrle, ScanKind.rle) ∈ scanCommands ∧ State.reset.pos = .idle ∧ State.reset.mmrState = .unconf ∧
    ({ State.reset with mmrState := .failed, mmrErr := .corruptMMRStream } : State).mmrState = .failed ∧
    ({ State.reset with mmrState := .done } : State).mmrState = .done := by decide

theorem witness_ScanByUnitState_active :
    let s : State := { secondRow .idle [0xe0] with flags := 2, striplineno := 1, rps := 2 }
    s.pos = .idle ∧ s.mmrState = .active ∧ 0 < s.width.toNat ∧ (s.flags.getLsbD 1 = true → s.striplineno ≠ s.rps) := by decide

/-- An ACTIVE striped stream (M35) whose first stripe's rows are all returned, with the bytes of S after that stripe. -/
def stripeEnd (send : BitVec 33) (more : List Byte) : State :=
  { secondRow .idle [0x23, 0xd8] with
    flags := 2
    striplineno := 2
    stream := [0, 0, 0, 2, 0x23, 0xd8] ++ more
    sp := 4
    send := send }

theorem witness_ScanEntersNextStripe :
    let s := stripeEnd 6 [0, 0, 0, 1, 0x80]
    (Instr.mmrScanruns, ScanKind.runs) ∈ scanCommands ∧ s.pos = .idle ∧ s.mmrState = .active ∧ 0 < s.width.toNat ∧
    s.flags.getLsbD 1 = true ∧ s.striplineno = s.rps ∧ s.stream.length < 4294967296 ∧ s.send.toNat ≤ s.stream.length ∧
    s.stream.drop s.send.toNat = be32 1 ++ [0x80] := by decide

theorem witness_MissingStripeRaises_past :
    let s := stripeEnd 7 []
    (Instr.mmrScanrle, ScanKind.rle) ∈ scanCommands ∧ s.pos = .idle ∧ s.mmrState = .active ∧ s.flags.getLsbD 1 = true ∧
    s.striplineno = s.rps ∧ s.stream.length < 4294967296 ∧ s.stream.length < s.send.toNat := by decide

theorem witness_MissingStripeRaises_short :
    let s := stripeEnd 6 [0, 0, 0]
    s.pos = .idle ∧ s.mmrState = .active ∧ s.flags.getLsbD 1 = true ∧ s.striplineno = s.rps ∧
    s.stream.length < 4294967296 ∧ s.send.toNat ≤ s.stream.length ∧ s.stream.length < s.send.toNat + 4 := by decide

theorem witness_MissingStripeRaises_boundary :
    let s := stripeEnd 6 []
    s.pos = .idle ∧ s.mmrState = .active ∧ s.flags.getLsbD 1 = true ∧ s.striplineno = s.rps ∧
    s.stream.length < 4294967296 ∧ s.send.toNat ≤ s.stream.length ∧ s.stream.length < s.send.toNat + 4 := by decide

theorem witness_AllWhiteRowTakesOneBit :
    let s : State := { secondRow .idle [0x80] with ref := [8], inbox := [.command ⟨0x02, .none⟩] }
    s.pos = .idle ∧ s.inbox = .command ⟨0x02, .none⟩ :: [] ∧ s.mmrState = .active ∧ 0 < s.width.toNat ∧
    s.ref = [s.width.toNat] ∧ (s.flags.getLsbD 1 = true → s.striplineno ≠ s.rps) ∧
    streamBit s.sdata s.bitpos.toNat = 1 := by decide

theorem witness_VerticalWithinRow :
    let s := secondRow .mode [0xe0]
    (verticalModes.all fun e => decide (s.pos = .mode ∧ HasBits s e.2.2 ∧ s.cur.length < s.width.toNat + 2 ∧
      (0 ≤ verticalRun s e.2.1 ∨ e.1 = .vl3) ∧ s.b1 + e.2.1 < s.width.toNat)) = true := by decide

theorem witness_VerticalWithinRow_vl3 :
    let s : State := { secondRow .mode [0xe0] with b1 := 5, pr := 2, a0 := 2, cur := [2], color := .black }
    s.pos = .mode ∧ HasBits s 7 ∧ s.cur.length < s.width.toNat + 2 ∧ 0 ≤ verticalRun s (-3) ∧
    s.b1 + (-3) < s.width.toNat := by decide

theorem witness_VerticalEndsRow :
    (verticalModes.all fun e =>
      let s : State := { secondRow .mode [0xe0] with b1 := 8 - e.2.1, a0 := 2, cur := [2], color := .black }
      decide (s.pos = .mode ∧ HasBits s e.2.2 ∧ s.cur.length < s.width.toNat + 2 ∧ 0 ≤ verticalRun s e.2.1 ∧
        s.b1 + e.2.1 = s.width.toNat)) = true := by decide

theorem witness_PassExtendsRunToB2_within :
    let s := secondRow .mode [0x18]
    s.pos = .mode ∧ HasBits s 4 ∧ s.b1 + s.refAt s.pr < s.width.toNat := by decide

theorem witness_PassExtendsRunToB2_at_width :
    let s : State := { secondRow .mode [0x18] with ref := [2, 6] }
    s.pos = .mode ∧ HasBits s 4 ∧ s.b1 + s.refAt s.pr = s.width.toNat ∧ 0 < s.rle + (s.b1 + s.refAt s.pr - s.a0) := by decide

theorem witness_HorizontalAndUncompressedEntry :
    let s := secondRow .mode [0x03, 0xf2]
    s.pos = .mode ∧ HasBits s 3 ∧ HasBits s 10 := by decide

theorem witness_ResyncFindsNextTransition :
    let s : State := { secondRow .mode [0xe0] with a0 := 6 }
    s.b1 = refPrefix s s.pr ∧ s.ref.sum = s.width.toNat := by decide

theorem witness_MakeupCodeExtendsRun :
    let s := secondRow .run1 [0xd8]
    ⟨.wm64, 0x1b00, 5, 64⟩ ∈ runRom .white ∧ 64 ≤ 64 ∧ s.runColour = some .white ∧ HasBits s 5 ∧ s.a0 + (64 : Nat) ≤ 131072 := by
  decide +kernel

theorem witness_MakeupCodeExtendsRun_black :
    let s : State := { secondRow .run2 [0x01, 0xf0] with a0 := 128512, rle := 128512 }
    ⟨.bx2560, 0x003e, 12, 2560⟩ ∈ runRom .black ∧ 64 ≤ 2560 ∧ s.runColour = some .black ∧ HasBits s 12 ∧
    s.a0 + (2560 : Nat) ≤ 131072 := by decide +kernel

theorem witness_FirstRunEnds :
    let s := secondRow .run1 [0xe0]
    ⟨.wt2, 0x0e00, 4, 2⟩ ∈ runRom .white ∧ 2 < 64 ∧ s.pos = .run1 ∧ s.color = .white ∧ HasBits s 4 ∧
    s.a0 + (2 : Nat) ≤ 131072 ∧ 0 ≤ s.rle + (2 : Nat) ∧ s.cur.length < s.width.toNat + 2 := by decide +kernel

theorem witness_SecondRunWithinRow :
    let s : State := { secondRow .run2 [0x80] with a0 := 2, cur := [2] }
    ⟨.bt3, 0x1000, 2, 3⟩ ∈ runRom .black ∧ 3 < 64 ∧ s.pos = .run2 ∧ s.color.other = .black ∧ HasBits s 2 ∧
    s.a0 + (3 : Nat) < s.width.toNat ∧ 0 ≤ s.rle + (3 : Nat) ∧ s.cur.length < s.width.toNat + 2 := by decide +kernel

theorem witness_SecondRunEndsRow :
    let s : State := { secondRow .run2 [0x80] with a0 := 5, cur := [5] }
    ⟨.bt3, 0x1000, 2, 3⟩ ∈ runRom .black ∧ 3 < 64 ∧ s.pos = .run2 ∧ s.color.other = .black ∧ HasBits s 2 ∧
    s.a0 + (3 : Nat) = s.width.toNat ∧ 0 ≤ s.rle + (3 : Nat) ∧ s.cur.length < s.width.toNat + 2 := by decide +kernel

theorem witness_EofbEndsImage : (secondRow .mode [0x00, 0x10, 0x01]).pos = .mode := rfl

theorem witness_LiteralPixels :
    let s := secondRow .unc [0x20]
    (literalCodes.all fun e => decide (s.pos = .unc ∧ HasBits s (e.2 + 1) ∧ s.a0 + (e.2 + 1 : Nat) ≤ s.width.toNat ∧
      0 ≤ s.rle ∧ s.cur.length ≤ s.width.toNat)) = true := by decide

theorem witness_FiveWhitePixels :
    let s : State := { secondRow .unc [0x04] with a0 := 3, rle := 1, cur := [2], color := .black }
    s.pos = .unc ∧ HasBits s 6 ∧ s.a0 + 5 ≤ s.width.toNat ∧ 0 ≤ s.rle ∧ s.cur.length < s.width.toNat + 2 := by decide

theorem witness_UncompressedExitWithinRow :
    let s := secondRow .unc [0x03]
    s.pos = .unc ∧ HasBits s 8 ∧ s.a0 < s.width.toNat ∧
    (Colour.black ≠ s.color → 0 ≤ s.rle ∧ s.cur.length < s.width.toNat + 2) := by decide

theorem witness_UncompressedExitEndsRow :
    let s : State := { secondRow .unc [0x02] with a0 := 8, rle := 1, cur := [7], color := .black }
    s.pos = .unc ∧ HasBits s 8 ∧ s.a0 = s.width.toNat ∧ 0 ≤ s.rle ∧ s.cur.length < s.width.toNat + 2 := by decide

theorem witness_TrailingRunClosedByV0 :
    let s : State := { secondRow .trailing [0x80] with a0 := 8, rle := 8 }
    s.pos = .trailing ∧ HasBits s 1 ∧ s.a0 = s.width.toNat ∧ 0 < s.rle ∧ s.cur.length < s.width.toNat + 2 := by decide

theorem witness_TrailingRunRejectsOtherModes :
    let s := secondRow .trailing [0x60]
    (Instr.vr1, 3) ∈ modesButV0 ∧ s.pos = .trailing ∧ HasBits s 3 := by decide

theorem witness_CutShortCodewordRaises_mode :
    let s : State := { secondRow .mode [0xff] with bitpos := 6 }
    encode .vr1 = .codeword .mode 3 3 ∧ s.sbits < s.bitpos.toNat + 3 ∧ (s.pos = .mode ∨ s.pos = .trailing) := by decide

theorem witness_CutShortCodewordRaises_run :
    let s : State := { secondRow .run1 [0xff] with bitpos := 5 }
    encode .wt2 = .codeword .white 7 4 ∧ s.sbits < s.bitpos.toNat + 4 ∧ Book.white = runBook .white ∧
    s.runColour = some .white := by decide

theorem witness_CutShortCodewordRaises_exit :
    let s : State := { secondRow .unc [0x02] with bitpos := 1 }
    encode (.ux .white) = .codeword .unc 2 8 ∧ s.sbits < s.bitpos.toNat + 8 ∧ s.pos = .unc := by decide

theorem witness_BadRunRaises_negative :
    let s := secondRow .mode [0x04]
    (Instr.vl3, (-3 : Int), 7) ∈ verticalModes ∧ s.pos = .mode ∧ HasBits s 7 ∧ CannotEmit s (verticalRun s (-3)) := by decide

/-- `secondRow` with W + 2 runs in CUR. -/
def fullRow (pos : Position) (data : List Byte) : State :=
  { secondRow pos data with cur := [0, 0, 0, 0, 0, 0, 0, 0, 0, 0] }

theorem witness_BadRunRaises_full :
    let s := fullRow .mode [0x80]
    (Instr.v0, (0 : Int), 1) ∈ verticalModes ∧ s.pos = .mode ∧ HasBits s 1 ∧ CannotEmit s (verticalRun s 0) := by decide

theorem witness_BadRunRaises_limit :
    let s : State := { secondRow .run1 [0x38] with a0 := 131072, rle := 131072 }
    ⟨.wt1, 0x0380, 6, 1⟩ ∈ runRom .white ∧ s.runColour = some .white ∧ HasBits s 6 ∧ 131072 < s.a0 + (1 : Nat) := by
  decide +kernel

/-- The terminating code of a first run, and of a second. -/
theorem witness_BadRunRaises_run :
    let s := fullRow .run1 [0x35]
    let t := fullRow .run2 [0x0d, 0xc0]
    ⟨.wt0, 0x06a0, 8, 0⟩ ∈ runRom .white ∧ s.runColour = some .white ∧ HasBits s 8 ∧ 0 < 64 ∧ CannotEmit s (s.rle + (0 : Nat)) ∧
    ⟨.bt0, 0x01b8, 10, 0⟩ ∈ runRom .black ∧ t.runColour = some .black ∧ HasBits t 10 ∧ CannotEmit t (t.rle + (0 : Nat)) := by
  decide +kernel

theorem witness_BadRunRaises_literal_first_pixel :
    let s : State := { fullRow .unc [0x40] with color := .black }
    (Instr.u01, 1) ∈ literalCodes ∧ s.pos = .unc ∧ s.color = .black ∧ 1 ≤ 1 ∧ HasBits s 1 ∧ CannotEmit s s.rle := by decide

theorem witness_BadRunRaises_literal_black_pixel :
    let s : State := { fullRow .unc [0x08] with a0 := 4, rle := 4 }
    (Instr.u00001, 4) ∈ literalCodes ∧ (Instr.u1, 0) ∈ literalCodes ∧ s.pos = .unc ∧ HasBits s (4 + 1) ∧
    s.a0 + (4 : Nat) ≤ s.width.toNat ∧ s.color = .white ∧ CannotEmit s (s.rle + (4 : Nat)) ∧
    CannotEmit s (s.rle + (0 : Nat)) := by decide

/-- W + 1 runs: the white pixels of U01 are the last run that fits. -/
theorem witness_BadRunRaises_literal_second_change :
    let s : State := { secondRow .unc [0x40] with cur := [0, 0, 0, 0, 0, 0, 0, 0, 0], color := .black }
    (Instr.u01, 1) ∈ literalCodes ∧ s.pos = .unc ∧ HasBits s (1 + 1) ∧ s.a0 + (1 : Nat) ≤ s.width.toNat ∧ s.color = .black ∧
    1 ≤ 1 ∧ 0 ≤ s.rle ∧ s.cur.length = s.width.toNat + 1 := by decide

theorem witness_BadRunRaises_u00000_and_exit :
    let s : State := { fullRow .unc [0x02] with color := .black }
    s.pos = .unc ∧ s.color = .black ∧ HasBits s 6 ∧ HasBits s 8 ∧ (s.width.toNat ≤ s.a0 ∨ Colour.white ≠ s.color) ∧
    CannotEmit s s.rle := by decide

theorem witness_BadRunRaises_exit_at_width :
    let s : State := { fullRow .unc [0x02] with a0 := 8, rle := 8 }
    s.pos = .unc ∧ HasBits s 8 ∧ (s.width.toNat ≤ s.a0 ∨ Colour.white ≠ s.color) ∧ CannotEmit s s.rle := by decide

theorem witness_BadRunRaises_trailing :
    let s : State := { fullRow .trailing [0x80] with a0 := 8, rle := 8 }
    s.pos = .trailing ∧ HasBits s 1 ∧ CannotEmit s s.rle := by decide

theorem witness_OvershootRaises_vertical :
    let s : State := { secondRow .mode [0x60] with b1 := 8, pr := 3, a0 := 5, cur := [2, 3] }
    s.ovrClamp = false ∧ s.cur.length < s.width.toNat + 2 ∧ (Instr.vr1, (1 : Int), 3) ∈ verticalModes ∧ s.pos = .mode ∧
    HasBits s 3 ∧ 0 ≤ verticalRun s 1 ∧ s.width.toNat < s.b1 + 1 := by decide

theorem witness_OvershootRaises_run :
    let s : State := { secondRow .run2 [0x30] with a0 := 5, cur := [5] }
    s.ovrClamp = false ∧ s.cur.length < s.width.toNat + 2 ∧ ⟨.bt5, 0x0600, 4, 5⟩ ∈ runRom .black ∧ 5 < 64 ∧ s.pos = .run2 ∧
    s.color.other = .black ∧ HasBits s 4 ∧ 0 ≤ s.rle + (5 : Nat) ∧ s.width.toNat < s.a0 + (5 : Nat) := by decide +kernel

theorem witness_OvershootClampKeepsFirstPixels :
    let s : State := { secondRow .run2 [0x30] with ovrClamp := true, a0 := 5, cur := [5] }
    ⟨.bt5, 0x0600, 4, 5⟩ ∈ runRom .black ∧ 5 < 64 ∧ s.ovrClamp = true ∧ s.pos = .run2 ∧ s.color.other = .black ∧ HasBits s 4 ∧
    s.cur.length < s.width.toNat + 2 ∧ 0 ≤ s.rle + (5 : Nat) ∧ (s.cur.sum : Int) + s.rle = s.a0 ∧
    s.width.toNat < s.a0 + (5 : Nat) ∧ s.a0 + (5 : Nat) ≤ 131072 := by decide +kernel

theorem witness_OvershootClampKeepsFirstPixels_vertical :
    let s : State := { secondRow .mode [0x60] with ovrClamp := true, b1 := 8, pr := 3, a0 := 5, cur := [2, 3] }
    s.ovrClamp = true ∧ s.cur.length < s.width.toNat + 2 ∧ (s.cur.sum : Int) + s.rle = s.a0 ∧ s.pos = .mode ∧
    ((verticalModes.filter fun e => decide (0 < e.2.1)).all fun e =>
      decide (HasBits s e.2.2 ∧ 0 ≤ verticalRun s e.2.1 ∧ s.width.toNat < s.b1 + e.2.1)) = true := by decide

theorem witness_UncompressedOvershootRaises :
    let s : State := { secondRow .unc [0x04] with a0 := 8, rle := 8 }
    s.pos = .unc ∧ s.a0 + (0 : Nat) = s.width.toNat ∧ 0 ≤ s.rle ∧ s.cur.length ≤ s.width.toNat ∧
    (Instr.u1, 0) ∈ literalCodes ∧ 0 < 0 + 1 ∧ HasBits s (0 + 1) ∧ 0 < 5 ∧ HasBits s 6 := by decide

theorem witness_UncompressedOvershootRaises_boundary :
    let s : State := { secondRow .unc [0x08] with a0 := 4, rle := 4 }
    s.pos = .unc ∧ s.a0 + (4 : Nat) = s.width.toNat ∧ 0 ≤ s.rle ∧ s.cur.length ≤ s.width.toNat ∧
    (Instr.u00001, 4) ∈ literalCodes ∧ 4 < 4 + 1 ∧ HasBits s (4 + 1) ∧ 4 < 5 ∧ HasBits s 6 := by decide

theorem witness_RleBytesReadBack : ([3617, 16383] : List Nat).sum = 20000 := by decide

theorem witness_ActiveRowIsLineOk : LineOk (secondRow .mode [0xe0]) ∧ CurOk (secondRow .mode [0xe0]) := by decide

theorem witness_StepKeepsRowInvariants : RowOk (secondRow .mode [0xe0]) ∧ ∃ t, step (secondRow .mode [0xe0]) = .next t := by
  refine ⟨⟨fun _ => witness_ActiveRowIsLineOk.1, fun _ _ => ⟨rfl, witness_ActiveRowIsLineOk.2⟩, fun _ => ?_, ?_, ?_, ?_, ?_⟩,
    exists_next (by decide +kernel)⟩
  · decide
  all_goals exact fun h => absurd h (by decide)

theorem witness_StepKeepsCursorsInRange :
    CursorOk (secondRow .mode [0xe0]) ∧ ∃ t, step (secondRow .mode [0xe0]) = .next t :=
  ⟨by decide, exists_next (by decide +kernel)⟩

theorem witness_StepKeepsErrorsAndBitmaps :
    ErrorsOk (secondRow .mode [0x04]) ∧ BitmapsOk (secondRow .mode [0x04]) ∧ ∃ t, step (secondRow .mode [0x04]) = .next t :=
  ⟨by decide, by decide, exists_next (by decide +kernel)⟩

/-- A step that returns a row. -/
theorem witness_ReturnedRowsSumToWidth :
    let s : State := { secondRow .trailing [0x80] with a0 := 8, rle := 8, cur := [] }
    RowOk s ∧ ReturnedRowOk s ∧ ∃ t, step s = .next t := by
  refine ⟨⟨fun _ => by decide, fun _ _ => by decide, ?_, ?_, ?_, ?_, fun _ => by decide⟩, by decide, exists_next (by decide +kernel)⟩
  all_goals exact fun h => absurd h (by decide)

/-- Within the size limits, whatever they are. -/
theorem witness_Jb2CommandsComplete :
    State.reset.pos = .idle ∧ State.reset.jb2Failed = false ∧ (0 : Word).toNat ≤ Config.jb2MaxW.toNat ∧
    (0 : Word).toNat ≤ Config.jb2MaxH.toNat ∧ ((0 : Word) = 0 ∨ (0 : Word) = 0) :=
  ⟨rfl, rfl, Nat.zero_le _, Nat.zero_le _, .inl rfl⟩

theorem witness_Jb2CommandsRefuse_sticky :
    let s : State := { State.reset with jb2Failed := true, jb2Err := .corruptJB2Stream }
    s.pos = .idle ∧ s.jb2Failed = true := by decide

/-- A width above the limit, whatever it is. -/
theorem witness_Jb2CommandsRefuse_size :
    State.reset.pos = .idle ∧ State.reset.jb2Failed = false ∧
    (Config.jb2MaxW.toNat < (0xffffffff : Word).toNat ∨ Config.jb2MaxH.toNat < (1 : Word).toNat) :=
  ⟨rfl, rfl, .inl (Nat.lt_trans Config.jb2MaxW.isLt (by decide))⟩

theorem witness_ContextBanksStaySeparate : (∃ t, exec (.jb2Direct 0 0) State.reset = .next t) ∧
    ∃ t, exec (.jb2Cross 0 0 plus ⟨0, 0, 2, 2⟩) State.reset = .next t :=
  ⟨exists_next (by decide +kernel), exists_next (by decide +kernel)⟩

theorem witness_ControlCommands : State.reset.pos = .idle ∧ 0x0f < (0x10 : BitVec 8).toNat ∧ (0x0f : BitVec 8).toNat ≤ 0x0f := by
  decide

theorem witness_ReservedOpcodesAreIllegal :
    State.reset.pos = .idle ∧ ((0x00 : BitVec 8).toNat = 0 ∨ 9 ≤ (0x00 : BitVec 8).toNat) ∧
    ((0x09 : BitVec 8).toNat = 0 ∨ 9 ≤ (0x09 : BitVec 8).toNat) := by decide

theorem witness_UnitsAreDisjoint : (∃ t, exec .v0 (secondRow .mode [0xe0]) = .next t) ∧ jb2Instr .v0 = false ∧
    (∃ t, exec .ctxInit State.reset = .next t) ∧ mmrInstr .ctxInit = false :=
  ⟨exists_next (by decide +kernel), rfl, exists_next (by decide +kernel), rfl⟩

theorem witness_LastErrWrittenOnlyByErr : ∃ t, exec (.reserved 0x00) State.reset = .next t := ⟨_, rfl⟩

theorem witness_CtrlAndStreamWriters : ∃ t, exec (.mmrInit []) State.reset = .next t := exists_next (by decide +kernel)


end Sys2Proof.Tests
end

/-! # The row program: what it leaves alone and how many bits it reads -/

namespace Sys2Proof.Machine

/-! ## The frame of the row program -/

/-- The state s with the fields that the row program writes taken from t (spec 40_mmr_modes.md R151-R171,
42_mmr_commands.md R215). -/
def State.withRow (s t : State) : State :=
  { s with
    mmrState := t.mmrState, lineno := t.lineno, striplineno := t.striplineno, ref := t.ref, cur := t.cur, a0 := t.a0
    b1 := t.b1, pr := t.pr, rle := t.rle, color := t.color, cwstart := t.cwstart, out := t.out, result := t.result
    pos := t.pos, freeCount := t.freeCount }

/-- t differs from s at most in what the row program writes: the stream, its cursors, the registers of the header, the error
registers, CTRL, the host's queue and the JB2 units are the same. -/
def RowKeeps (s t : State) : Prop := t = s.withRow t

theorem RowKeeps.refl (s : State) : RowKeeps s s := rfl

theorem RowKeeps.trans {s t u : State} (hst : RowKeeps s t) (htu : RowKeeps t u) : RowKeeps s u :=
  calc
    u = t.withRow u := htu
    _ = (s.withRow t).withRow u := congrArg (State.withRow · u) hst

theorem rowKeeps_mark (s : State) : RowKeeps s s.mark := rfl

theorem rowKeeps_pos (p : Position) (s : State) : RowKeeps s { s with pos := p } := rfl

theorem rowKeeps_setColor (c : Colour) (s : State) : RowKeeps s (s.setColor c) := rfl

theorem rowKeeps_resync (s : State) : RowKeeps s (resync s) := rfl

theorem rowKeeps_pass (s : State) : RowKeeps s (pass s) := rfl

theorem rowKeeps_addRun (v : Nat) (s : State) : RowKeeps s { s with a0 := s.a0 + v, rle := s.rle + v } := rfl

theorem rowKeeps_endScanNoLine (s : State) :
    RowKeeps s (endScanNoLine { s.mark with lineno := s.height, mmrState := .done }) := rfl

theorem rowKeeps_completeScan (s : State) : RowKeeps s (completeScan s) := by
  unfold completeScan
  dsimp only
  split <;> rfl

theorem rowKeeps_commit (s : State) : RowKeeps s (commit s) := rfl

theorem rowKeeps_clampRow (s : State) : RowKeeps s (clampRow s) := by
  unfold clampRow
  dsimp only
  split <;> rfl

theorem rowKeeps_moveRef (k : Int) (s : State) : RowKeeps s (moveRef k s) := by
  unfold moveRef
  split <;> rfl

theorem rowKeeps_restartRef (s : State) : RowKeeps s (restartRef s) := by
  unfold restartRef
  split <;> rfl

/-! ## Reading bits -/

/-- s with BITPOS moved by n bits. -/
def State.skip (n : Nat) (s : State) : State := { s with bitpos := s.after n }

@[simp] theorem State.skip_zero (s : State) : s.skip 0 = s := by
  simp [State.skip, State.after]

theorem State.skip_skip (m n : Nat) (s : State) : (s.skip m).skip n = s.skip (m + n) := by
  simp [State.skip, State.after, BitVec.add_assoc, BitVec.ofNat_add]

theorem RowKeeps.skip {s t : State} (h : RowKeeps s t) (n : Nat) : RowKeeps (s.skip n) (t.skip n) :=
  congrArg (State.skip n) h

theorem cursorOk_skip {n : Nat} {s : State} (hc : CursorOk s) (hn : HasBits s n) : CursorOk (s.skip n) := by
  have hbit : (s.after n).toNat ≤ s.sbits := by rwa [after_toNat hc hn]
  obtain ⟨hstream, hdata, hsp, -⟩ := hc
  exact ⟨hstream, hdata, hsp, hbit⟩

theorem hasBits_add {m n : Nat} {s : State} (hc : CursorOk s) (hm : HasBits s m) (hn : HasBits (s.skip m) n) :
    HasBits s (m + n) := by
  have hskip : (s.after m).toNat + n ≤ s.sbits := hn
  rw [after_toNat hc hm] at hskip
  rwa [HasBits, ← Nat.add_assoc]

theorem RowKeeps.cursorOk {s t : State} (h : RowKeeps s t) (hc : CursorOk s) : CursorOk t := h ▸ hc

theorem RowKeeps.hasBits {s t : State} (h : RowKeeps s t) {n : Nat} (hn : HasBits t n) : HasBits s n := by
  rw [h] at hn
  exact hn

/-- The row program has gone from s to t and read n bits, which the data hold if the cursors were in range. -/
def Reads (n : Nat) (s t : State) : Prop := RowKeeps (s.skip n) t ∧ (CursorOk s → HasBits s n)

theorem RowKeeps.reads {s t : State} (h : RowKeeps s t) : Reads 0 s t := by
  refine ⟨?_, fun hc => hc.2.2.2⟩
  rwa [State.skip_zero]

theorem Reads.cursorOk {n : Nat} {s t : State} (h : Reads n s t) (hc : CursorOk s) : CursorOk t :=
  h.1.cursorOk (cursorOk_skip hc (h.2 hc))

theorem Reads.bitpos {n : Nat} {s t : State} (h : Reads n s t) (hc : CursorOk s) :
    t.bitpos.toNat = s.bitpos.toNat + n := by
  have hb : t.bitpos = s.after n := congrArg State.bitpos h.1
  rw [hb, after_toNat hc (h.2 hc)]

theorem Reads.trans {m n : Nat} {s t u : State} (hst : Reads m s t) (htu : Reads n t u) : Reads (m + n) s u := by
  refine ⟨?_, fun hc => hasBits_add hc (hst.2 hc) (hst.1.hasBits (htu.2 (hst.cursorOk hc)))⟩
  rw [← State.skip_skip]
  exact (hst.1.skip n).trans htu.1

/-- An operation of the row program, run in s, reads exactly n bits where it answers a state and at most n where it raises. -/
def Consumes (n : Nat) (s : State) : Try State → Prop
  | .ok t => Reads n s t
  | .error r => ∃ k ≤ n, Reads k s r.state

theorem Consumes.ok {s t : State} (h : RowKeeps s t) : Consumes 0 s (.ok t) := h.reads

theorem Consumes.raise {s : State} {r : Raised} (h : RowKeeps s r.state) : Consumes 0 s (.error r) :=
  ⟨0, Nat.le_refl 0, h.reads⟩

theorem Consumes.of_reads {m n : Nat} {s t : State} {x : Try State} (hst : Reads m s t) (hx : Consumes n t x) :
    Consumes (m + n) s x := by
  cases x with
  | ok u => exact hst.trans hx
  | error r =>
    obtain ⟨k, hk, hr⟩ := hx
    exact ⟨m + k, by omega, hst.trans hr⟩

/-- What writes only fields of the row program may come first. -/
theorem Consumes.of_keeps {n : Nat} {s t : State} {x : Try State} (hst : RowKeeps s t) (hx : Consumes n t x) :
    Consumes n s x :=
  Nat.zero_add n ▸ hx.of_reads hst.reads

theorem Consumes.bind {m n : Nat} {s : State} {x : Try State} {f : State → Try State} (hx : Consumes m s x)
    (hf : ∀ t, Consumes n t (f t)) : Consumes (m + n) s (x >>= f) := by
  cases x with
  | ok t => exact (hf t).of_reads hx
  | error r =>
    obtain ⟨k, hk, hr⟩ := hx
    exact ⟨k, by omega, hr⟩

/-- An operation that reads nothing comes first. -/
theorem Consumes.then {n : Nat} {s : State} {x : Try State} {f : State → Try State} (hx : Consumes 0 s x)
    (hf : ∀ t, Consumes n t (f t)) : Consumes n s (x >>= f) :=
  Nat.zero_add n ▸ hx.bind hf

/-! ## What the operations of the row program read -/

theorem consumes_takeCodeword (n : Nat) (s : State) : Consumes n s (takeCodeword n s) := by
  by_cases h : HasBits s n
  · rw [takeCodeword_ok h]
    exact ⟨rfl, fun _ => h⟩
  · rw [takeCodeword_end h]
    exact ⟨0, Nat.zero_le n, (rowKeeps_mark s).reads⟩

theorem consumes_emit (v : Int) (s : State) : Consumes 0 s (emit v s) := by
  by_cases h : CannotEmit s v
  · rw [emit_raises h]
    exact .raise (.refl s)
  · rw [emit_ok (by omega) (by omega)]
    exact .ok rfl

theorem consumes_emitPending (s : State) : Consumes 0 s (emitPending s) :=
  (consumes_emit s.rle s).then fun _ => .ok rfl

theorem consumes_overshoot (s : State) : Consumes 0 s (overshoot s) := by
  unfold overshoot
  split
  · exact .ok (rowKeeps_clampRow s)
  · exact .raise (.refl s)

theorem consumes_closeRow (s : State) : Consumes 0 s (closeRow s) := by
  have hreturn (t : State) : Consumes 0 t (.ok (completeScan (commit t))) :=
    .ok ((rowKeeps_commit t).trans (rowKeeps_completeScan (commit t)))
  unfold closeRow
  dsimp only
  split
  · exact (consumes_overshoot s).then hreturn
  · exact hreturn s

theorem consumes_rowEnd (s : State) : Consumes 0 s (rowEnd s) := by
  unfold rowEnd
  split
  · exact .ok rfl
  · exact consumes_closeRow s

theorem consumes_rowLoop (s : State) : Consumes 0 s (rowLoop s) := by
  unfold rowLoop
  split
  · exact .ok rfl
  · exact consumes_rowEnd s

theorem consumes_afterMode (s : State) : Consumes 0 s (afterMode s) :=
  .of_keeps (rowKeeps_resync s) (consumes_rowLoop (resync s))

theorem consumes_endRun (s : State) : Consumes 0 s (endRun s) := by
  unfold endRun
  split
  · exact (consumes_emitPending s).then fun _ => .ok rfl
  · exact (consumes_emitPending s).then consumes_afterMode

theorem consumes_addRun (v : Nat) (s : State) : Consumes 0 s (addRun v s) := by
  unfold addRun
  dsimp only
  split
  · exact .raise rfl
  · split
    · exact .of_keeps (rowKeeps_addRun v s) (consumes_endRun _)
    · exact .ok rfl

theorem consumes_uPix (p : Colour) (s : State) : Consumes 0 s (uPix p s) := by
  have hpixel (t : State) : Consumes 0 t (.ok { t with rle := t.rle + 1, a0 := t.a0 + 1 }) := .ok rfl
  unfold uPix
  dsimp only
  split
  · exact ((consumes_emitPending s).then fun t => .ok (rowKeeps_setColor p t)).then hpixel
  · exact hpixel s

theorem consumes_uCheck (s : State) : Consumes 0 s (uCheck s) := by
  unfold uCheck
  split
  · exact .raise (.refl s)
  · exact .ok (.refl s)

theorem consumes_uBit (p : Colour) (s : State) : Consumes 1 s (uBit p s) :=
  (consumes_takeCodeword 1 s).bind fun t => (consumes_uPix p t).then consumes_uCheck

/-- The literal code of k white pixels and one black has k + 1 bits (spec 41_mmr_escapes.md R194). -/
theorem consumes_uLiteral (k : Nat) (s : State) : Consumes (k + 1) s (uLiteral k s) := by
  induction k generalizing s with
  | zero => exact consumes_uBit .black s
  | succ k ih => exact Nat.add_comm 1 (k + 1) ▸ (consumes_uBit .white s).bind ih

theorem consumes_uWhites (n : Nat) (s : State) : Consumes 0 s (uWhites n s) := by
  induction n generalizing s with
  | zero => exact .ok (.refl s)
  | succ n ih => exact (consumes_uPix .white s).then ih

theorem consumes_exitFixup (t : Colour) (s : State) : Consumes 0 s (exitFixup t s) := by
  have hrestart (u : State) : Consumes 0 u (.ok (restartRef u)) := .ok (rowKeeps_restartRef u)
  unfold exitFixup
  dsimp only
  split
  · exact (consumes_emitPending s).then hrestart
  · split
    · exact ((consumes_emitPending s).then fun u => .ok (rowKeeps_setColor t u)).then hrestart
    · exact hrestart s

theorem consumes_verticalMode (k : Int) (s : State) : Consumes 0 s (verticalMode k s) := by
  have hvertical : Consumes 0 s (vertical k s) :=
    (Consumes.of_keeps (rowKeeps_moveRef k s) (consumes_emit _ _)).then fun _ => .ok rfl
  exact hvertical.then consumes_afterMode

theorem consumes_rejectTrailing (s : State) : Consumes 0 s (rejectTrailing s) := .raise (.refl s)

theorem consumes_closeTrailing (s : State) : Consumes 0 s (closeTrailing s) :=
  (consumes_emitPending s).then consumes_closeRow

/-! ## Codewords -/

/-- An instruction's answer in s is a codeword's of n bits: the fault of a codeword out of position, or the outcome of an operation
of the row program that consumes n bits. -/
def CodewordResult (n : Nat) (s : State) (r : Result) : Prop :=
  r = .fault .codewordOutOfPosition ∨ ∃ x, r = finishMmr x ∧ Consumes n s x

theorem codewordResult_runCodeword (c : Colour) (v len : Nat) (s : State) :
    CodewordResult len s (runCodeword c v len s) := by
  by_cases h : s.runColour = some c
  · rw [runCodeword_at h]
    exact .inr ⟨_, rfl, (consumes_takeCodeword len s).bind (consumes_addRun v)⟩
  · exact .inl (if_neg h)

theorem codewordResult_codewordAt {n : Nat} {body : State → Try State} (h : ∀ s, Consumes n s (body s)) (p : Position)
    (s : State) : CodewordResult n s (codewordAt p body s) := by
  by_cases hp : s.pos = p
  · rw [codewordAt_at hp]
    exact .inr ⟨_, rfl, h s⟩
  · exact .inl (if_neg hp)

theorem codewordResult_modeCodeword {body close : State → Try State} (hbody : ∀ s, Consumes 0 s (body s))
    (hclose : ∀ s, Consumes 0 s (close s)) (len : Nat) (s : State) :
    CodewordResult len s (modeCodeword len body close s) := by
  unfold modeCodeword
  split
  · exact .inr ⟨_, rfl, (consumes_takeCodeword len s).bind hbody⟩
  · exact .inr ⟨_, rfl, (consumes_takeCodeword len s).bind hclose⟩
  · exact .inl rfl

theorem codewordResult_vertical (k : Int) (len : Nat) (s : State) :
    CodewordResult len s (modeCodeword len (verticalMode k) rejectTrailing s) :=
  codewordResult_modeCodeword (consumes_verticalMode k) consumes_rejectTrailing len s

theorem codewordResult_eofb (s : State) : CodewordResult 0 s (exec .eofb s) :=
  codewordResult_codewordAt (fun s => .ok (rowKeeps_endScanNoLine s)) .mode s

/-- Every codeword but EOFB consumes its length (spec 30_encoding.md R101, R102). -/
theorem codewordResult_exec {i : Instr} {book : Book} {code len : Nat} (h : encode i = .codeword book code len)
    (hi : i ≠ .eofb) (s : State) : CodewordResult len s (exec i s) := by
  obtain rfl : (encode i).length = len := congrArg Encoded.length h
  cases i
  case eofb => exact absurd rfl hi
  case mmrInit | mmrScanruns | mmrScanrle | jb2Direct | jb2Cross | ctxInit | writeCtrl | readReg | reserved => nomatch h
  case p =>
    exact codewordResult_modeCodeword (fun s => .of_keeps (rowKeeps_pass s) (consumes_afterMode (pass s))) consumes_rejectTrailing 4 s
  case h => exact codewordResult_modeCodeword (fun s => .ok (rowKeeps_pos .run1 s)) consumes_rejectTrailing 3 s
  case v0 => exact codewordResult_modeCodeword (consumes_verticalMode 0) consumes_closeTrailing 1 s
  case vr1 => exact codewordResult_vertical 1 3 s
  case vr2 => exact codewordResult_vertical 2 6 s
  case vr3 => exact codewordResult_vertical 3 7 s
  case vl1 => exact codewordResult_vertical (-1) 3 s
  case vl2 => exact codewordResult_vertical (-2) 6 s
  case vl3 => exact codewordResult_vertical (-3) 7 s
  case unc => exact codewordResult_codewordAt (fun s => (consumes_takeCodeword 10 s).bind fun t =>
      .ok (rowKeeps_pos .unc t)) .mode s
  case u1 => exact codewordResult_codewordAt (consumes_uLiteral 0) .unc s
  case u01 => exact codewordResult_codewordAt (consumes_uLiteral 1) .unc s
  case u001 => exact codewordResult_codewordAt (consumes_uLiteral 2) .unc s
  case u0001 => exact codewordResult_codewordAt (consumes_uLiteral 3) .unc s
  case u00001 => exact codewordResult_codewordAt (consumes_uLiteral 4) .unc s
  case u00000 =>
    exact codewordResult_codewordAt (fun s => (consumes_takeCodeword 6 s).bind fun t =>
      (consumes_uWhites 5 t).then consumes_uCheck) .unc s
  case ux t =>
    exact codewordResult_codewordAt (fun s => (consumes_takeCodeword 8 s).bind fun u =>
      (consumes_exitFixup t u).then consumes_afterMode) .unc s
  all_goals exact codewordResult_runCodeword _ _ _ s

/-- What an MMR instruction answers: the state it reached, or the error entry of what it raised. -/
theorem finishMmr_eq_next {x : Try State} {t : State} (h : finishMmr x = .next t) :
    x = .ok t ∨ ∃ r, x = .error r ∧ t = mmrErrorEntry r.err r.bit r.state := by
  cases x with
  | ok u => exact .inl (by cases h; rfl)
  | error r => exact .inr ⟨r, rfl, by cases h; rfl⟩

/-- A codeword's next state, if it raised nothing, has read its bits. -/
theorem CodewordResult.reads {n : Nat} {s t : State} {r : Result} (h : CodewordResult n s r) (ht : r = .next t)
    (hok : t.mmrState ≠ .failed) : Reads n s t := by
  obtain rfl | ⟨x, rfl, hx⟩ := h
  · cases ht
  · obtain rfl | ⟨e, rfl, rfl⟩ := finishMmr_eq_next ht
    · exact hx
    · exact absurd (mmrErrorEntry_spec e.err e.bit e.state).1 hok

/-- Settles O10: every codeword is the outcome of an operation that consumes exactly its length where it raises nothing. -/
theorem codewordAdvancesByItsLength : Obligations.CodewordAdvancesByItsLength := by
  intro i book code len s t hi hc ht hok
  by_cases he : i = .eofb
  · subst he
    exact ((codewordResult_eofb s).reads ht hok).bitpos hc
  · rw [if_neg he]
    exact ((codewordResult_exec hi he s).reads ht hok).bitpos hc

end Sys2Proof.Machine

/-! # Commands: what the host issued, CTRL, S and the cursors -/

namespace Sys2Proof.Machine

/-! ## The frame of the MMR unit -/

/-- The state s with the fields taken from t that an MMR command writes once S is loaded: those of the row program, the stream's
cursors, the stripe data and the registers of the header (spec 42_mmr_commands.md R210-R216). -/
def State.withMmr (s t : State) : State :=
  { s.withRow t with
    width := t.width, height := t.height, flags := t.flags, rps := t.rps, stripeno := t.stripeno, bitpos := t.bitpos
    sp := t.sp, send := t.send, sdata := t.sdata, scan := t.scan }

/-- t differs from s at most in what an MMR command writes once S is loaded, and its cursors are in range if those of s are. -/
structure MmrKeeps (s t : State) : Prop where
  frame : t = s.withMmr t
  cursorOk : CursorOk s → CursorOk t

theorem MmrKeeps.refl (s : State) : MmrKeeps s s := ⟨rfl, id⟩

theorem MmrKeeps.trans {s t u : State} (hst : MmrKeeps s t) (htu : MmrKeeps t u) : MmrKeeps s u where
  frame :=
    calc
      u = t.withMmr u := htu.frame
      _ = (s.withMmr t).withMmr u := congrArg (State.withMmr · u) hst.frame
  cursorOk := htu.cursorOk ∘ hst.cursorOk

/-- What writes no cursor keeps the cursors in range. -/
theorem RowKeeps.mmrKeeps {s t : State} (h : RowKeeps s t) : MmrKeeps s t where
  frame :=
    calc
      t = s.withMmr (s.withRow t) := h
      _ = s.withMmr t := congrArg s.withMmr h.symm
  cursorOk := h.cursorOk

theorem Reads.mmrKeeps {n : Nat} {s t : State} (h : Reads n s t) : MmrKeeps s t :=
  .trans (t := s.skip n) ⟨rfl, fun hc => cursorOk_skip hc (h.2 hc)⟩ h.1.mmrKeeps

/-- An operation of the MMR unit, run in s, keeps the frame in the state that goes with its value and in the state it raises in;
`st` is the state of a value. -/
def Leaves {α : Type} (st : α → State) (s : State) : Try α → Prop
  | .ok a => MmrKeeps s (st a)
  | .error r => MmrKeeps s r.state

/-- What keeps the frame may come first. -/
theorem Leaves.of_keeps {α : Type} {st : α → State} {s t : State} {x : Try α} (hst : MmrKeeps s t)
    (hx : Leaves st t x) : Leaves st s x := by
  cases x with
  | ok a => exact hst.trans hx
  | error r => exact hst.trans hx

theorem Leaves.bind {α β : Type} {st : α → State} {st' : β → State} {s : State} {x : Try α} {f : α → Try β}
    (hx : Leaves st s x) (hf : ∀ a, Leaves st' (st a) (f a)) : Leaves st' s (x >>= f) := by
  cases x with
  | ok a => exact (hf a).of_keeps hx
  | error r => exact hx

theorem Consumes.leaves {n : Nat} {s : State} {x : Try State} (h : Consumes n s x) : Leaves id s x := by
  cases x with
  | ok t => exact Reads.mmrKeeps h
  | error r =>
    obtain ⟨k, -, hr⟩ := h
    exact hr.mmrKeeps

/-! ## The byte source and the commands of the MMR unit -/

/-- The registers of the header. -/
theorem mmrKeeps_header (w h r : BitVec 16) (f : BitVec 2) (s : State) :
    MmrKeeps s { s with width := w, height := h, rps := r, flags := f } := ⟨rfl, id⟩

/-- SP does not leave S (spec 20_memory.md R61). -/
theorem leaves_readByte (s : State) : Leaves Prod.snd s (readByte s) := by
  unfold readByte
  split
  · exact .refl s
  · next b hb =>
    obtain ⟨hlt, -⟩ := List.getElem?_eq_some_iff.mp hb
    refine ⟨rfl, fun ⟨hstream, hdata, _, hbit⟩ => ⟨hstream, hdata, ?_, hbit⟩⟩
    rw [sp_add_one hlt hstream]
    exact hlt

theorem leaves_read16 (s : State) : Leaves Prod.snd s (read16 s) :=
  (leaves_readByte s).bind fun (_, s1) => (leaves_readByte s1).bind fun (_, s2) => .refl s2

theorem leaves_read32 (s : State) : Leaves Prod.snd s (read32 s) :=
  (leaves_readByte s).bind fun (_, s1) => (leaves_readByte s1).bind fun (_, s2) =>
    (leaves_readByte s2).bind fun (_, s3) => (leaves_readByte s3).bind fun (_, s4) => .refl s4

theorem streamWindow_length_le (stream : List Byte) (sp send : Nat) : (streamWindow stream sp send).length ≤ stream.length := by
  simp only [streamWindow, List.length_take, List.length_drop]
  omega

/-- The data of a stripe are a part of S, and BITPOS is 0 (spec 20_memory.md R68). -/
theorem leaves_readStripe (s : State) : Leaves id s (readStripe s) :=
  (leaves_read32 s).bind fun (len, s1) => by
    refine ⟨rfl, fun ⟨hstream, _, hsp, _⟩ => ⟨hstream, ?_, hsp, Nat.zero_le _⟩⟩
    exact Nat.lt_of_le_of_lt (streamWindow_length_le _ _ _) hstream

/-- SP moves to SEND only where SEND is inside S (spec 20_memory.md R69). -/
theorem leaves_nextStripe (s : State) : Leaves id s (nextStripe s) := by
  unfold nextStripe
  split
  · exact .refl s
  · next hsend =>
    have hmove : MmrKeeps s { s with sp := s.send.setWidth 32 } := by
      refine ⟨rfl, fun ⟨hstream, hdata, _, hbit⟩ => ⟨hstream, hdata, ?_, hbit⟩⟩
      simp only [BitVec.toNat_setWidth]
      omega
    exact .of_keeps hmove ((leaves_readStripe _).bind fun _ => ⟨rfl, id⟩)

theorem leaves_parseHeader (s : State) : Leaves id s (parseHeader s) := by
  refine (leaves_read32 s).bind fun (magic, s1) => ?_
  dsimp only
  split
  · exact .refl s1
  refine .of_keeps (mmrKeeps_header s1.width s1.height s1.rps (magic.setWidth 2) s1) ?_
  refine (leaves_read16 _).bind fun (w, s2) => ?_
  refine .of_keeps (mmrKeeps_header w s2.height s2.rps s2.flags s2) ?_
  refine (leaves_read16 _).bind fun (h, s3) => ?_
  refine .of_keeps (mmrKeeps_header s3.width h s3.rps s3.flags s3) ?_
  dsimp only
  split
  · exact .refl _
  split
  · refine (leaves_read16 _).bind fun (r, s4) => ?_
    refine .of_keeps (mmrKeeps_header s4.width s4.height r s4.flags s4) ?_
    dsimp only
    split
    · exact .refl _
    · exact .refl _
  · exact mmrKeeps_header s3.width h h s3.flags _

theorem mmrKeeps_enterWholeData (s : State) : MmrKeeps s (enterWholeData s) := by
  refine ⟨rfl, fun ⟨hstream, _, hsp, _⟩ => ⟨hstream, ?_, hsp, Nat.zero_le _⟩⟩
  simp only [enterWholeData_sdata, List.length_drop]
  omega

theorem leaves_enterFirstStripe (s : State) : Leaves id s (enterFirstStripe s) :=
  (leaves_readStripe s).bind fun _ => ⟨rfl, id⟩

/-- Once S is loaded `MMR_INIT` keeps the frame (spec 42_mmr_commands.md R210). -/
theorem leaves_initMmr (bytes : List Byte) (s : State) : Leaves id (initStream bytes s) (initMmr bytes s) := by
  refine (leaves_parseHeader _).bind fun s1 => ?_
  dsimp only
  split
  · exact (leaves_enterFirstStripe s1).bind fun _ => ⟨rfl, id⟩
  · exact .of_keeps (mmrKeeps_enterWholeData s1) ⟨rfl, id⟩

theorem leaves_stripeBoundary (s : State) : Leaves id s (stripeBoundary s) :=
  .of_keeps (t := { s with striplineno := 0 }) ⟨rfl, id⟩ ((leaves_nextStripe _).bind fun _ => ⟨rfl, id⟩)

theorem leaves_startRow (k : ScanKind) (s : State) : Leaves id s (startRow k s) := by
  have hrow (t : State) : Leaves id t (rowLoop (rowStart { t with scan := k, result := none })) :=
    .of_keeps (t := rowStart { t with scan := k, result := none }) ⟨rfl, id⟩ (consumes_rowLoop _).leaves
  unfold startRow
  dsimp only
  split
  · exact (leaves_stripeBoundary s).bind hrow
  · exact hrow s

/-! ## The JB2 loop -/

/-- The state s with the fields taken from t that a bitmap loop writes (spec 44_jb2_direct.md R244, 45_jb2_cross.md R270). -/
def State.withLoop (s t : State) : State :=
  { s with
    ctxd := t.ctxd, ctxx := t.ctxx, tb := t.tb, model := t.model, x := t.x, y := t.y, ctx := t.ctx, xd2c := t.xd2c
    yd2c := t.yd2c, zp := t.zp }

/-- t differs from s at most in what a bitmap loop writes. -/
def LoopKeeps (s t : State) : Prop := t = s.withLoop t

theorem LoopKeeps.refl (s : State) : LoopKeeps s s := rfl

theorem LoopKeeps.trans {s t u : State} (hst : LoopKeeps s t) (htu : LoopKeeps t u) : LoopKeeps s u :=
  calc
    u = t.withLoop u := htu
    _ = (s.withLoop t).withLoop u := congrArg (State.withLoop · u) hst

/-- The state in which a bitmap loop ends or stops. -/
def loopState : Except ZpStop State → State
  | .ok s => s
  | .error (.endOfStream s) => s
  | .error (.noAnswer s) => s

theorem loopKeeps_bind {s : State} {x : Except ZpStop State} {f : State → Except ZpStop State}
    (hx : LoopKeeps s (loopState x)) (hf : ∀ t, LoopKeeps t (loopState (f t))) : LoopKeeps s (loopState (x >>= f)) := by
  cases x with
  | ok t => exact hx.trans (hf t)
  | error e => exact hx

theorem loopKeeps_holdModel (dw dh : Word) (mb : Bitmap) (box : Box) (s : State) :
    LoopKeeps s (holdModel dw dh mb box s) := rfl

theorem loopKeeps_zpAnswered (bank : Bank) (z cell : Nat) (s : State) : LoopKeeps s (zpAnswered bank z cell s) := by
  cases bank <;> rfl

theorem loopKeeps_decodePixel (zp : Zp) (bank : Bank) (s : State) : LoopKeeps s (loopState (decodePixel zp bank s)) := by
  unfold decodePixel
  split
  · exact .refl s
  · next u hu =>
    obtain ⟨z, cell, -, rfl⟩ := zpRequest_eq_some hu
    exact loopKeeps_zpAnswered bank z cell s
  · next n u hu =>
    obtain ⟨z, cell, -, rfl⟩ := zpRequest_eq_some hu
    exact (loopKeeps_zpAnswered bank z cell s).trans rfl

theorem loopKeeps_decodeColumns (zp : Zp) (bank : Bank) (n : Nat) (s : State) :
    LoopKeeps s (loopState (decodeColumns zp bank n s)) := by
  induction n generalizing s with
  | zero => exact .refl s
  | succ n ih => exact loopKeeps_bind (loopKeeps_decodePixel zp bank s) ih

theorem loopKeeps_decodeRow (zp : Zp) (bank : Bank) (s : State) : LoopKeeps s (loopState (decodeRow zp bank s)) := by
  have hstart : LoopKeeps s { s with x := 0, ctx := State.fullCtx { s with x := 0 } bank } := rfl
  exact loopKeeps_bind (hstart.trans (loopKeeps_decodeColumns zp bank _ _)) fun _ => rfl

theorem loopKeeps_decodeRows (zp : Zp) (bank : Bank) (n : Nat) (s : State) :
    LoopKeeps s (loopState (decodeRows zp bank n s)) := by
  induction n generalizing s with
  | zero => exact .refl s
  | succ n ih => exact loopKeeps_bind (loopKeeps_decodeRow zp bank s) ih

theorem loopKeeps_decodeBitmap (zp : Zp) (bank : Bank) (dw dh : Word) (s : State) :
    LoopKeeps s (loopState (decodeBitmap zp bank dw dh s)) := by
  have hstart : LoopKeeps s { s with tb := blankBitmap dw dh, y := (dh.toNat : Int) - 1 } := rfl
  exact hstart.trans (loopKeeps_decodeRows zp bank _ _)

/-! ## What every instruction keeps -/

/-- CTRL, what the host has issued and S are the same, and the cursors stay in range. -/
structure HostKeeps (s t : State) : Prop where
  ovrClamp : t.ovrClamp = s.ovrClamp
  inbox : t.inbox = s.inbox
  stream : t.stream = s.stream
  cursorOk : CursorOk s → CursorOk t

theorem HostKeeps.trans {s t u : State} (hst : HostKeeps s t) (htu : HostKeeps t u) : HostKeeps s u where
  ovrClamp := htu.ovrClamp.trans hst.ovrClamp
  inbox := htu.inbox.trans hst.inbox
  stream := htu.stream.trans hst.stream
  cursorOk := htu.cursorOk ∘ hst.cursorOk

theorem MmrKeeps.hostKeeps {s t : State} (h : MmrKeeps s t) : HostKeeps s t where
  ovrClamp := (congrArg State.ovrClamp h.frame :)
  inbox := (congrArg State.inbox h.frame :)
  stream := (congrArg State.stream h.frame :)
  cursorOk := h.cursorOk

theorem LoopKeeps.hostKeeps {s t : State} (h : LoopKeeps s t) : HostKeeps s t where
  ovrClamp := (congrArg State.ovrClamp h :)
  inbox := (congrArg State.inbox h :)
  stream := (congrArg State.stream h :)
  cursorOk hc := h ▸ hc

theorem hostKeeps_mmrErrorEntry (e : ErrCode) (bit : BitVec 35) (s : State) : HostKeeps s (mmrErrorEntry e bit s) :=
  ⟨rfl, rfl, rfl, id⟩

theorem hostKeeps_jb2ErrorEntry (e : ErrCode) (s : State) : HostKeeps s (jb2ErrorEntry e s) := ⟨rfl, rfl, rfl, id⟩

theorem hostKeeps_reply (r : CmdResult) (s : State) : HostKeeps s (s.reply r) := ⟨rfl, rfl, rfl, id⟩

theorem hostKeeps_replyErr (e : ErrCode) (s : State) : HostKeeps s (s.replyErr e) := ⟨rfl, rfl, rfl, id⟩

theorem Leaves.hostKeeps {s t : State} {x : Try State} (h : Leaves id s x) (ht : finishMmr x = .next t) :
    HostKeeps s t := by
  obtain rfl | ⟨r, rfl, rfl⟩ := finishMmr_eq_next ht
  · exact MmrKeeps.hostKeeps h
  · exact (MmrKeeps.hostKeeps h).trans (hostKeeps_mmrErrorEntry _ _ _)

theorem CodewordResult.hostKeeps {n : Nat} {s t : State} {r : Result} (h : CodewordResult n s r) (ht : r = .next t) :
    HostKeeps s t := by
  obtain rfl | ⟨x, rfl, hx⟩ := h
  · cases ht
  · exact hx.leaves.hostKeeps ht

theorem startScan_hostKeeps {k : ScanKind} {s t : State} (h : startScan k s = .next t) : HostKeeps s t := by
  have hbegin : HostKeeps s (beginOutput k s) := ⟨rfl, rfl, rfl, id⟩
  unfold startScan at h
  split at h
  · cases h
    exact hostKeeps_replyErr _ s
  · cases h
    exact hostKeeps_replyErr _ s
  · cases h
    exact hbegin.trans (hostKeeps_reply _ _)
  · exact hbegin.trans ((leaves_startRow k _).hostKeeps h)

theorem jb2Command_hostKeeps {prepare : State → State} (hp : ∀ s, LoopKeeps s (prepare s)) (zp : Zp) (bank : Bank)
    (dw dh : Word) (s : State) : HostKeeps s (jb2Command zp bank dw dh prepare s) := by
  unfold jb2Command
  split
  · exact hostKeeps_replyErr _ s
  split
  · exact .trans (t := { s with x := -1, y := -1 }) ⟨rfl, rfl, rfl, id⟩ (hostKeeps_jb2ErrorEntry _ _)
  · have hloop := ((hp s).trans (loopKeeps_decodeBitmap zp bank dw dh (prepare s))).hostKeeps
    split
    · next u hend =>
      rw [hend] at hloop
      exact hloop.trans ⟨rfl, rfl, rfl, id⟩
    · next u hend =>
      rw [hend] at hloop
      exact hloop.trans (hostKeeps_jb2ErrorEntry _ u)
    · next u hend =>
      rw [hend] at hloop
      exact hloop.trans ⟨rfl, rfl, rfl, id⟩

/-- A command answers a state only between commands (spec 46_control.md R294). -/
theorem commandAt_eq_next {body : State → Result} {s t : State} (h : commandAt body s = .next t) :
    s.pos = .idle ∧ body s = .next t := by
  by_cases hp : s.pos = .idle
  · exact ⟨hp, commandAt_idle hp body ▸ h⟩
  · rw [commandAt, if_neg hp] at h
    cases h

theorem exec_jb2Direct {dw dh : Word} {s t : State} (h : exec (.jb2Direct dw dh) s = .next t) :
    s.pos = .idle ∧ t = jb2Command Config.zp .d dw dh id s := by
  obtain ⟨hp, hbody⟩ := commandAt_eq_next (show execJb2Direct dw dh s = .next t from h)
  exact ⟨hp, by cases hbody; rfl⟩

theorem exec_jb2Cross {dw dh : Word} {mb : Bitmap} {box : Box} {s t : State}
    (h : exec (.jb2Cross dw dh mb box) s = .next t) :
    s.pos = .idle ∧ t = jb2Command Config.zp .x dw dh (holdModel dw dh mb box) s := by
  obtain ⟨hp, hbody⟩ := commandAt_eq_next (show execJb2Cross dw dh mb box s = .next t from h)
  exact ⟨hp, by cases hbody; rfl⟩

theorem exec_ctxInit_hostKeeps {s t : State} (h : exec .ctxInit s = .next t) : HostKeeps s t := by
  obtain ⟨-, hbody⟩ := commandAt_eq_next (show execCtxInit s = .next t from h)
  cases hbody
  exact ⟨rfl, rfl, rfl, id⟩

theorem exec_readReg_hostKeeps {n : BitVec 8} {s t : State} (h : exec (.readReg n) s = .next t) : HostKeeps s t := by
  obtain ⟨-, hbody⟩ := commandAt_eq_next (show execReadReg n s = .next t from h)
  split at hbody
  · cases hbody
    exact hostKeeps_reply _ s
  · cases hbody
    exact hostKeeps_replyErr _ s

theorem exec_reserved {opcode : BitVec 8} {s t : State} (h : exec (.reserved opcode) s = .next t) :
    t = s.replyErr .illegalCommand := by
  obtain ⟨-, hbody⟩ := commandAt_eq_next (show execReserved opcode s = .next t from h)
  cases hbody
  rfl

/-- Every instruction but MMR_INIT and WRITE_CTRL keeps S, CTRL and the cursors' ranges. -/
theorem exec_hostKeeps {i : Instr} {s t : State} (h : exec i s = .next t) (hinit : ∀ bytes, i ≠ .mmrInit bytes)
    (hctrl : ∀ v, i ≠ .writeCtrl v) : HostKeeps s t := by
  cases he : encode i with
  | codeword book code len =>
    by_cases hi : i = .eofb
    · subst hi
      exact (codewordResult_eofb s).hostKeeps h
    · exact (codewordResult_exec he hi s).hostKeeps h
  | command c =>
    cases i
    case mmrInit bytes => exact absurd rfl (hinit bytes)
    case writeCtrl v => exact absurd rfl (hctrl v)
    case mmrScanruns => exact startScan_hostKeeps (commandAt_eq_next h).2
    case mmrScanrle => exact startScan_hostKeeps (commandAt_eq_next h).2
    case jb2Direct dw dh => exact (exec_jb2Direct h).2 ▸ jb2Command_hostKeeps LoopKeeps.refl _ _ _ _ _
    case jb2Cross dw dh mb box =>
      exact (exec_jb2Cross h).2 ▸ jb2Command_hostKeeps (loopKeeps_holdModel dw dh mb box) _ _ _ _ _
    case ctxInit => exact exec_ctxInit_hostKeeps h
    case readReg n => exact exec_readReg_hostKeeps h
    case reserved opcode => exact exec_reserved h ▸ hostKeeps_replyErr _ s
    all_goals nomatch he

/-- `MMR_INIT` loads S; what follows keeps S, CTRL and the cursors' ranges (spec 42_mmr_commands.md R210). -/
theorem exec_mmrInit_hostKeeps {bytes : List Byte} {s t : State} (h : exec (.mmrInit bytes) s = .next t) :
    s.pos = .idle ∧ HostKeeps (initStream bytes s) t := by
  obtain ⟨hp, hbody⟩ := commandAt_eq_next (show execMmrInit bytes s = .next t from h)
  exact ⟨hp, (leaves_initMmr bytes s).hostKeeps hbody⟩

theorem exec_writeCtrl {v : Word} {s t : State} (h : exec (.writeCtrl v) s = .next t) :
    t = State.reply (.ok .unit) { s with ovrClamp := v.getLsbD 0 } := by
  obtain ⟨-, hbody⟩ := commandAt_eq_next (show execWriteCtrl v s = .next t from h)
  cases hbody
  rfl

/-- Settles O60: MMR_INIT and WRITE_CTRL are the only writers, of S and of CTRL. -/
theorem ctrlAndStreamWriters : Obligations.CtrlAndStreamWriters := by
  intro i s t h
  by_cases hinit : ∃ bytes, i = .mmrInit bytes
  · obtain ⟨bytes, rfl⟩ := hinit
    obtain ⟨-, hk⟩ := exec_mmrInit_hostKeeps h
    exact ⟨.inl hk.ovrClamp, hk.inbox, .inr ⟨bytes, rfl, hk.stream⟩⟩
  by_cases hctrl : ∃ v, i = .writeCtrl v
  · obtain ⟨v, rfl⟩ := hctrl
    rw [exec_writeCtrl h]
    exact ⟨.inr ⟨v, rfl⟩, rfl, .inl rfl⟩
  · have hk := exec_hostKeeps h (not_exists.mp hinit) (not_exists.mp hctrl)
    exact ⟨.inl hk.ovrClamp, hk.inbox, .inl hk.stream⟩

/-! ## The step -/

/-- An instruction keeps the cursors in range; MMR_INIT needs its operand within the size of S (spec 20_memory.md R60). -/
theorem exec_cursorOk {i : Instr} {s t : State} (h : exec i s = .next t) (hc : CursorOk s)
    (hi : s.pos = .idle → i.wellFormed = true) : CursorOk t := by
  by_cases hinit : ∃ bytes, i = .mmrInit bytes
  · obtain ⟨bytes, rfl⟩ := hinit
    obtain ⟨hp, hk⟩ := exec_mmrInit_hostKeeps h
    have hlen : bytes.length < 4294967296 := by
      simpa [Instr.wellFormed, streamOperandOk] using hi hp
    exact hk.cursorOk ⟨hlen, (by decide : 0 < 4294967296), Nat.zero_le _, Nat.zero_le _⟩
  by_cases hctrl : ∃ v, i = .writeCtrl v
  · obtain ⟨v, rfl⟩ := hctrl
    rw [exec_writeCtrl h]
    exact hc
  · exact (exec_hostKeeps h (not_exists.mp hinit) (not_exists.mp hctrl)).cursorOk hc

/-- The decoder gives only well-formed commands (spec 30_encoding.md R122). -/
theorem wellFormed_of_decodeCommand {c : Command} {i : Instr} (h : decodeCommand c = .ok i) : i.wellFormed = true := by
  unfold decodeCommand at h
  split at h
  · cases h
  · split at h
    · next hw =>
      cases h
      exact hw
    · cases h

/-- A window is fetched only inside a scan command. -/
theorem pos_ne_idle_of_fetch_window {s : State} {books : List Book} {w : BitVec 32}
    (h : fetch s = .source (.window books w)) : s.pos ≠ .idle := by
  intro hp
  unfold fetch at h
  rw [show s.books = none by simp [State.books, hp]] at h
  dsimp only at h
  split at h
  · cases h
  · split at h <;> cases h

theorem lookupFailed_cursorOk {s t : State} (h : lookupFailed s = .next t) (hc : CursorOk s) : CursorOk t := by
  unfold lookupFailed at h
  split at h <;> (cases h; exact hc)

/-- Settles O44: a step is an event that sets the cursors to 0 or leaves them, or an instruction, or a failed lookup. -/
theorem stepKeepsCursorsInRange : Obligations.StepKeepsCursorsInRange := by
  intro s t hc h
  unfold step at h
  split at h
  · cases h
    exact hc
  · cases h
    exact ⟨hc.1, (by decide : 0 < 4294967296), Nat.zero_le _, Nat.zero_le _⟩
  · cases h
    exact hc
  · next src hf =>
    cases src with
    | command c =>
      split at h
      · next i hd => exact exec_cursorOk h hc fun _ => wellFormed_of_decodeCommand hd
      · cases h
    | window books w =>
      split at h
      · exact exec_cursorOk h hc fun hp => absurd hp (pos_ne_idle_of_fetch_window hf)
      · exact lookupFailed_cursorOk h hc

end Sys2Proof.Machine

/-! # Refused JB2 commands and reset -/

namespace Sys2Proof.Machine

/-- Between commands a JB2 command runs `jb2Command` in one of the two banks. -/
theorem exec_jb2_eq {dw dh : Word} {mb : Bitmap} {box : Box} {i : Instr} {s : State} (hp : s.pos = .idle)
    (hi : i ∈ [Instr.jb2Direct dw dh, Instr.jb2Cross dw dh mb box]) :
    ∃ bank prepare, exec i s = .next (jb2Command Config.zp bank dw dh prepare s) := by
  simp only [List.mem_cons, List.not_mem_nil, or_false] at hi
  obtain rfl | rfl := hi
  · exact ⟨.d, id, show execJb2Direct dw dh s = _ from commandAt_idle hp _⟩
  · exact ⟨.x, holdModel dw dh mb box, show execJb2Cross dw dh mb box s = _ from commandAt_idle hp _⟩

/-- The sticky refusal (spec 60_exceptions.md R311). -/
theorem jb2Command_sticky {zp : Zp} {bank : Bank} {dw dh : Word} {prepare : State → State} {s : State}
    (hf : s.jb2Failed = true) : jb2Command zp bank dw dh prepare s = s.replyErr s.jb2Err := by
  rw [jb2Command, if_pos hf]

/-- The size check (spec 60_exceptions.md R303). -/
theorem jb2Command_tooLarge {zp : Zp} {bank : Bank} {dw dh : Word} {prepare : State → State} {s : State}
    (hf : s.jb2Failed = false) (hsize : Config.jb2MaxW.toNat < dw.toNat ∨ Config.jb2MaxH.toNat < dh.toNat) :
    jb2Command zp bank dw dh prepare s = jb2ErrorEntry .corruptJB2Stream { s with x := -1, y := -1 } := by
  rw [jb2Command, if_neg (by simp [hf]), if_pos hsize]

/-- Settles O52: both JB2 commands check JB2_FAILED, then the size, before the bitmap loop. -/
theorem jb2CommandsRefuse : Obligations.Jb2CommandsRefuse := by
  intro s dw dh mb box hp i hi
  obtain ⟨bank, prepare, hexec⟩ := exec_jb2_eq hp hi
  rw [hexec]
  constructor
  · intro hf
    rw [jb2Command_sticky hf]
    rfl
  · intro hf hsize
    rw [jb2Command_tooLarge hf hsize]
    rfl

/-- The step takes a reset that the host has issued (spec 70_reset_and_hazards.md R340). -/
theorem step_reset {s : State} {rest : List HostEvent} (hp : s.pos = .idle) (hin : s.inbox = .reset :: rest) :
    step s = .next (takeReset s) := by
  simp [step, fetch, State.books, hp, hin]

theorem vector_get_replicate {n : Nat} (c : Nat) (i : Fin n) : (Vector.replicate n c).get i = c :=
  Vector.getElem_replicate i.isLt

theorem resetTable_reset : ResetTable State.reset :=
  ⟨rfl, rfl, rfl, rfl, rfl, rfl, rfl, rfl, rfl, rfl, rfl, rfl, rfl, rfl, rfl, rfl, rfl, rfl,
    vector_get_replicate Config.cellInit, vector_get_replicate Config.cellInit, rfl, rfl, rfl, rfl, rfl, rfl⟩

/-- The reset event gives every register of the table the value of the start state. -/
theorem resetTable_takeReset (s : State) : ResetTable (takeReset s) := resetTable_reset

/-- Settles O7. -/
theorem resetRestoresTable : Obligations.ResetRestoresTable := by
  refine ⟨resetTable_reset, fun s rest hp hin => ?_⟩
  exact ⟨takeReset s, step_reset hp hin, resetTable_takeReset s, rfl, rfl, congrArg List.tail hin, rfl, rfl⟩

/-- Between commands, with no ACTIVE stream, there is no row to be sound (spec 40_mmr_modes.md R170). -/
theorem rowOk_of_idle {s : State} (ha : s.mmrState ≠ .active) (hp : s.pos = .idle) : RowOk s := by
  simp [RowOk, ha, hp]

theorem cursorOk_reset : CursorOk State.reset := by decide

theorem errorsOk_reset : ErrorsOk State.reset := by decide

/-- Settles O47. -/
theorem resetMeetsInvariants : Obligations.ResetMeetsInvariants := by
  refine ⟨rowOk_of_idle (by decide) rfl, cursorOk_reset, errorsOk_reset, ⟨empty_wf, fun _ => rfl⟩, ?_⟩
  intro l hl
  cases hl

end Sys2Proof.Machine

/-! # The bit source, failed and cut short codewords, and the start of a scan -/

namespace Sys2Proof.Machine

/-! ## Peek -/

/-- Every weight doubles when one more bit is read. -/
theorem two_mul_sum_map (l : List Nat) (f : Nat → Nat) : 2 * (l.map f).sum = (l.map fun j => 2 * f j).sum := by
  induction l with
  | nil => rfl
  | cons j l ih => simp only [List.map_cons, List.sum_cons, Nat.mul_add, ih]

/-- `Peek(n)` as a sum: the j-th bit read has the weight of its place (spec 20_memory.md R64). -/
theorem peekFrom_eq_sum (data : List Byte) (k n : Nat) :
    peekFrom data k n = ((List.range n).map fun j => streamBit data (k + j) * 2 ^ (n - 1 - j)).sum := by
  induction n with
  | zero => rfl
  | succ n ih =>
    have hweight : ∀ j ∈ List.range n,
        2 * (streamBit data (k + j) * 2 ^ (n - 1 - j)) = streamBit data (k + j) * 2 ^ (n + 1 - 1 - j) := by
      intro j hj
      have hj : j < n := List.mem_range.mp hj
      rw [show n + 1 - 1 - j = n - 1 - j + 1 by omega, Nat.pow_succ', Nat.mul_left_comm]
    have hlast : streamBit data (k + n) * 2 ^ (n + 1 - 1 - n) = streamBit data (k + n) := by
      rw [Nat.add_sub_cancel, Nat.sub_self, Nat.pow_zero, Nat.mul_one]
    rw [peekFrom, ih, two_mul_sum_map, List.map_congr_left hweight, List.range_succ, List.map_append, List.sum_append_nat,
      List.map_singleton, List.sum_singleton, hlast]

/-- Settles O8: the top bits of the window are a peek, and a peek is the sum of its bits' weights. -/
theorem peekReadsStreamBits : Obligations.PeekReadsStreamBits := by
  intro s n _ hn
  rw [topBits_window hn, peekFrom_eq_sum]
  rfl

/-! ## Failed lookups -/

/-- Inside a scan command the fetch is the window, read through the codebooks of the position (spec 30_encoding.md R115). -/
theorem fetch_of_books {s : State} {books : List Book} (h : s.books = some books) :
    fetch s = .source (.window books s.window) := by
  simp only [fetch, h]

/-- A window that starts no codeword of the position's codebooks is a failed lookup (spec 20_memory.md R67). -/
theorem step_of_noMatch {s : State} {books : List Book} (hb : s.books = some books)
    (hw : decodeWindow books s.window = none) : step s = lookupFailed s := by
  simp only [step, fetch_of_books hb, decode, hw, undecoded]

/-- The error of a failed lookup is raised at BITPOS, end of stream where no bit is left (spec 20_memory.md R66, R67). -/
theorem lookupFailed_eq (s : State) : lookupFailed s =
    .next (mmrErrorEntry (if s.sbits ≤ s.bitpos.toNat then .unexpectedEndOfStream else .corruptMMRStream) s.bitpos s.mark) := by
  by_cases h : s.sbits ≤ s.bitpos.toNat <;> simp [lookupFailed, State.exhausted, h]

/-- An error raised where a codeword starts: marking CWSTART is no change that the host can see. -/
theorem mmrErrorEntry_mark_spec (e : ErrCode) (bit : BitVec 35) (s : State) :
    MmrFailed e bit s (mmrErrorEntry e bit s.mark) :=
  mmrErrorEntry_spec e bit s.mark

/-- Settles O9: the step is the failed lookup, which consumes nothing. -/
theorem failedLookupRaises : Obligations.FailedLookupRaises := by
  intro s books hb hw
  exact ⟨_, (step_of_noMatch hb hw).trans (lookupFailed_eq s), mmrErrorEntry_mark_spec _ _ s⟩

/-! ## Codewords cut short -/

/-- What begins with a codeword that the data do not hold raises at its first bit, whatever would follow
(spec 20_memory.md R65). -/
theorem takeCodeword_bind_cutShort {n : Nat} {s : State} (h : ¬ HasBits s n) (f : State → Try State) :
    ∃ t, finishMmr (takeCodeword n s >>= f) = .next t ∧ MmrFailed .unexpectedEndOfStream s.bitpos s t := by
  rw [takeCodeword_end h]
  exact ⟨_, rfl, mmrErrorEntry_mark_spec _ _ s⟩

/-- Every word of the mode table acts through `modeCodeword` with its own length (spec 30_encoding.md R103). -/
theorem exec_of_encode_mode {i : Instr} {code len : Nat} (h : encode i = .codeword .mode code len) :
    ∃ body close, ∀ s, exec i s = modeCodeword len body close s := by
  cases i <;> cases h
  all_goals exact ⟨_, _, fun _ => rfl⟩

/-- Every word of a colour's run table acts through `runCodeword` with its own colour and length
(spec 30_encoding.md R105-R109). -/
theorem exec_of_encode_run {c : Colour} {i : Instr} {code len : Nat} (h : encode i = .codeword (runBook c) code len) :
    ∃ v, ∀ s, exec i s = runCodeword c v len s := by
  cases c
  case white =>
    cases i <;> cases h
    all_goals exact ⟨_, fun _ => rfl⟩
  case black =>
    cases i <;> cases h
    all_goals exact ⟨_, fun _ => rfl⟩

/-- Settles O36: a mode, a run and an exit each begin by taking their codeword. -/
theorem cutShortCodewordRaises : Obligations.CutShortCodewordRaises := by
  intro i book code len s henc hshort hpos
  have hbits : ¬ HasBits s len := Nat.not_le.mpr hshort
  obtain ⟨rfl, hp | hp⟩ | ⟨c, rfl, hc⟩ | ⟨hp, t, rfl⟩ := hpos
  · obtain ⟨body, close, hexec⟩ := exec_of_encode_mode henc
    rw [hexec, modeCodeword_mode hp]
    exact takeCodeword_bind_cutShort hbits body
  · obtain ⟨body, close, hexec⟩ := exec_of_encode_mode henc
    rw [hexec, modeCodeword_trailing hp]
    exact takeCodeword_bind_cutShort hbits close
  · obtain ⟨v, hexec⟩ := exec_of_encode_run henc
    rw [hexec, runCodeword_at hc]
    exact takeCodeword_bind_cutShort hbits (addRun v)
  · obtain rfl : 8 = len := congrArg Encoded.length henc
    rw [show exec (.ux t) s = execUx t s from rfl, execUx, codewordAt_at hp]
    exact takeCodeword_bind_cutShort hbits _

/-! ## The start of a scan -/

/-- Between commands both scan commands run `startScan` (spec 42_mmr_commands.md R215, R218). -/
theorem exec_scan {e : Instr × ScanKind} (he : e ∈ scanCommands) {s : State} (hp : s.pos = .idle) :
    exec e.1 s = startScan e.2 s := by
  simp only [scanCommands, List.mem_cons, List.not_mem_nil, or_false] at he
  obtain rfl | rfl := he
  · exact commandAt_idle hp (startScan .runs)
  · exact commandAt_idle hp (startScan .rle)

/-- A scan before any MMR_INIT (spec 60_exceptions.md R306). -/
theorem startScan_unconf {s : State} (h : s.mmrState = .unconf) (k : ScanKind) :
    startScan k s = .next (s.replyErr .noStartRecord) := by
  simp only [startScan, h]

/-- A scan after an MMR error answers with that error (spec 60_exceptions.md R311). -/
theorem startScan_failed {s : State} (h : s.mmrState = .failed) (k : ScanKind) :
    startScan k s = .next (s.replyErr s.mmrErr) := by
  simp only [startScan, h]

/-- A scan after the last row (spec 42_mmr_commands.md R215). -/
theorem startScan_done {s : State} (h : s.mmrState = .done) (k : ScanKind) :
    startScan k s = .next ((beginOutput k s).reply .noLine) := by
  simp only [startScan, h]

/-- Settles O16: a case of `startScan` for each state of the unit. -/
theorem scanByUnitState : Obligations.ScanByUnitState := by
  intro e he s hp
  rw [exec_scan he hp]
  refine ⟨fun h => startScan_unconf h e.2, fun h => startScan_failed h e.2, fun h => startScan_done h e.2, ?_⟩
  intro h hw hb
  have hinside : ¬ (s.striped ∧ s.striplineno = s.rps) := fun ⟨hf, hl⟩ => hb hf hl
  exact startScan_row h hw hinside

/-- The stripe boundary where the next stripe's length is in S: the stripe is entered and the reference line is white
(spec 42_mmr_commands.md R216, 20_memory.md R69). -/
theorem stripeBoundary_ok {s : State} {len : BitVec 32} {rest : List Byte} (hs : s.send.toNat ≤ s.stream.length)
    (hd : s.stream.drop s.send.toNat = be32 len ++ rest) (hl : s.stream.length < 4294967296) :
    stripeBoundary s = .ok { s with
      striplineno := 0
      sp := BitVec.ofNat 32 (s.send.toNat + 4)
      sdata := rest.take len.toNat
      send := BitVec.ofNat 33 (s.send.toNat + 4 + len.toNat)
      bitpos := 0
      stripeno := s.stripeno + 1
      ref := [s.width.toNat] } := by
  rw [stripeBoundary, nextStripe_ok (s := { s with striplineno := 0 }) hs hd hl]
  rfl

/-- A scan in ACTIVE at a stripe boundary: the row starts in the state that the boundary leaves
(spec 42_mmr_commands.md R215, R216). -/
theorem startScan_boundary {k : ScanKind} {s t : State} (h : s.mmrState = .active)
    (hb : s.striped ∧ s.striplineno = s.rps) (hnext : stripeBoundary (beginOutput k s) = .ok t)
    (hw : 0 < t.width.toNat) :
    startScan k s = .next { rowStart { t with scan := k, result := none } with pos := .mode } := by
  have hb' : (beginOutput k s).striped ∧ (beginOutput k s).striplineno = (beginOutput k s).rps := hb
  have hrow : (rowStart { t with scan := k, result := none }).a0 < t.width.toNat := Int.natCast_pos.mpr hw
  simp only [startScan, h, startRow, if_pos hb', hnext, try_ok_bind]
  rw [rowLoop_within hrow]
  rfl

/-- Settles O17: the boundary enters the stripe, then the row starts. -/
theorem scanEntersNextStripe : Obligations.ScanEntersNextStripe := by
  intro e he s len rest hp ha hw hf hl hlen hs hd
  rw [exec_scan he hp, startScan_boundary ha ⟨hf, hl⟩ (stripeBoundary_ok (s := beginOutput e.2 s) hs hd hlen) hw]
  rfl

end Sys2Proof.Machine

/-! # Codebooks: a ROM's rows tile its slots, and decoding undoes encoding -/

namespace Sys2Proof.Machine

/-! ## The top bits of a window -/

theorem topBits_eq_div (n : Nat) (w : BitVec 32) : topBits n w = w.toNat / 2 ^ (32 - n) := Nat.shiftRight_eq_div_pow _ _

/-- Fewer top bits are the first of more top bits (spec 20_memory.md R64). -/
theorem topBits_of_le {m n : Nat} (hmn : m ≤ n) (hn : n ≤ 32) (w : BitVec 32) :
    topBits m w = topBits n w / 2 ^ (n - m) := by
  rw [topBits_eq_div, topBits_eq_div, Nat.div_div_eq_div_mul, ← Nat.pow_add, show 32 - n + (n - m) = 32 - m by omega]

theorem topBits_lt {n : Nat} (hn : n ≤ 32) (w : BitVec 32) : topBits n w < 2 ^ n := by
  rw [topBits_eq_div, Nat.div_lt_iff_lt_mul (Nat.two_pow_pos _), ← Nat.pow_add, Nat.add_sub_cancel' hn]
  exact w.isLt

/-! ## A ROM tiles its slots -/

theorem covers_iff {nbits i : Nat} {r : RomRow} :
    r.covers nbits i = true ↔ r.key ≤ i ∧ i < r.key + 2 ^ (nbits - r.len) := by
  simp [RomRow.covers]

/-- The rows, in this order, own the slots from `lo` up to `hi` without a gap and without an overlap. -/
def tiles (nbits hi : Nat) : Nat → List RomRow → Bool
  | lo, [] => lo == hi
  | lo, r :: rows => r.key == lo && tiles nbits hi (lo + 2 ^ (nbits - r.len)) rows

@[simp] theorem tiles_nil {nbits hi lo : Nat} : tiles nbits hi lo [] = true ↔ lo = hi := by simp [tiles]

@[simp] theorem tiles_cons {nbits hi lo : Nat} {r : RomRow} {rows : List RomRow} :
    tiles nbits hi lo (r :: rows) = true ↔ r.key = lo ∧ tiles nbits hi (lo + 2 ^ (nbits - r.len)) rows = true := by
  simp [tiles]

theorem le_of_tiles {nbits hi : Nat} {rows : List RomRow} : ∀ {lo : Nat}, tiles nbits hi lo rows = true → lo ≤ hi := by
  induction rows with
  | nil => exact fun h => Nat.le_of_eq (tiles_nil.mp h)
  | cons r rows ih => exact fun h => Nat.le_trans (Nat.le_add_right _ _) (ih (tiles_cons.mp h).2)

/-- The slots with an owner are those from `lo` up to `hi`. -/
theorem exists_covers_iff_of_tiles {nbits hi i : Nat} {rows : List RomRow} : ∀ {lo : Nat}, tiles nbits hi lo rows = true →
    ((∃ r ∈ rows, r.covers nbits i = true) ↔ lo ≤ i ∧ i < hi) := by
  induction rows with
  | nil =>
    intro lo h
    obtain rfl := tiles_nil.mp h
    simp
  | cons r rows ih =>
    intro lo h
    obtain ⟨rfl, hrest⟩ := tiles_cons.mp h
    have hle := le_of_tiles hrest
    have hpos := Nat.two_pow_pos (nbits - r.len)
    simp only [List.mem_cons, exists_eq_or_imp]
    rw [ih hrest, covers_iff]
    omega

/-- No slot has two owners. -/
theorem covers_unique_of_tiles {nbits hi i : Nat} {rows : List RomRow} : ∀ {lo : Nat}, tiles nbits hi lo rows = true →
    ∀ r ∈ rows, ∀ r' ∈ rows, r.covers nbits i = true → r'.covers nbits i = true → r = r' := by
  induction rows with
  | nil => simp
  | cons q rows ih =>
    intro lo h
    obtain ⟨rfl, hrest⟩ := tiles_cons.mp h
    have hafter : ∀ r ∈ rows, r.covers nbits i = true → ¬ q.covers nbits i = true := by
      intro r hr hc
      have hge := ((exists_covers_iff_of_tiles hrest).mp ⟨r, hr, hc⟩).1
      rw [covers_iff]
      omega
    intro r hr r' hr' hc hc'
    rcases List.mem_cons.mp hr with hq | hr <;> rcases List.mem_cons.mp hr' with hq' | hr'
    · exact hq.trans hq'.symm
    · exact absurd (hq ▸ hc) (hafter r' hr' hc')
    · exact absurd (hq' ▸ hc') (hafter r hr hc)
    · exact ih hrest r hr r' hr' hc hc'

/-- A row put in front of the first row with a larger key. -/
def insertByKey (q : RomRow) : List RomRow → List RomRow
  | [] => [q]
  | r :: rows => if q.key ≤ r.key then q :: r :: rows else r :: insertByKey q rows

theorem mem_insertByKey {q r : RomRow} {rows : List RomRow} : r ∈ insertByKey q rows ↔ r = q ∨ r ∈ rows := by
  induction rows with
  | nil => simp only [insertByKey, List.mem_cons]
  | cons p rows ih =>
    rw [insertByKey]
    split
    next hle => rw [List.mem_cons]
    next hgt => rw [List.mem_cons, ih, List.mem_cons, or_left_comm]

/-- The rows of a ROM in the order of their keys. -/
def byKey : List RomRow → List RomRow
  | [] => []
  | r :: rom => insertByKey r (byKey rom)

theorem mem_byKey {rom : List RomRow} {r : RomRow} : r ∈ byKey rom ↔ r ∈ rom := by
  induction rom with
  | nil => rw [byKey]
  | cons q rom ih => rw [byKey, mem_insertByKey, ih, List.mem_cons]

/-- A code of a book, left-aligned in the lookup window, is the key of the row that the table has for the instruction i. -/
def HasRow (rom : List RomRow) (nbits : Nat) (i : Instr) (code len : Nat) : Prop :=
  len ≤ nbits ∧ ∃ value, romSlot rom nbits (code * 2 ^ (nbits - len)) = some ⟨i, code * 2 ^ (nbits - len), len, value⟩

/-- What makes a table the ROM of a codebook (spec 30_encoding.md R100, R101): the book is read by lookup in it, its rows own the
slots from `lo` on, and every code of the book, left-aligned in the lookup window, is the key of its instruction's row. -/
structure IsRom (book : Book) (rom : List RomRow) (nbits lo : Nat) : Prop where
  decodes : ∀ w, decodeBook book w = romLookup rom nbits w
  nbits_le : nbits ≤ 32
  slots : tiles nbits (2 ^ nbits) lo (byKey rom) = true
  row : ∀ i code len, encode i = .codeword book code len → HasRow rom nbits i code len

section
variable {book : Book} {rom : List RomRow} {nbits lo : Nat}

/-- No codeword is read exactly in the slots before the first row's. -/
theorem IsRom.decodeBook_eq_none_iff (h : IsRom book rom nbits lo) (w : BitVec 32) :
    decodeBook book w = none ↔ topBits nbits w < lo := by
  have hcov := exists_covers_iff_of_tiles (i := topBits nbits w) h.slots
  simp only [mem_byKey] at hcov
  have hlt := topBits_lt h.nbits_le w
  rw [h.decodes, romLookup, Option.map_eq_none_iff, romSlot, List.find?_eq_none]
  constructor
  · intro hno
    refine Nat.lt_of_not_le fun hlo => ?_
    obtain ⟨r, hr, hc⟩ := hcov.mpr ⟨hlo, hlt⟩
    exact hno r hr hc
  · intro hlo r hr hc
    exact absurd (hcov.mp ⟨r, hr, hc⟩).1 (Nat.not_le.mpr hlo)

/-- A slot belongs to the row that covers it, wherever that row stands in the table. -/
theorem IsRom.romSlot_eq (h : IsRom book rom nbits lo) {r : RomRow} (hr : r ∈ rom) {i : Nat}
    (hc : r.covers nbits i = true) : romSlot rom nbits i = some r := by
  obtain ⟨q, hq⟩ := Option.isSome_iff_exists.mp (List.find?_isSome.mpr ⟨r, hr, hc⟩)
  have hqr : q = r := covers_unique_of_tiles h.slots q (mem_byKey.mpr (List.mem_of_find?_eq_some hq)) r (mem_byKey.mpr hr)
    (List.find?_some hq) hc
  rw [romSlot, hq, hqr]

/-- A window that starts with a row's code is in one of the row's slots. -/
theorem covers_of_topBits {r : RomRow} {w : BitVec 32} (hn : nbits ≤ 32) (hlen : r.len ≤ nbits)
    (hkey : r.key = topBits r.len w * 2 ^ (nbits - r.len)) : r.covers nbits (topBits nbits w) = true := by
  rw [topBits_of_le hlen hn] at hkey
  rw [covers_iff, hkey]
  exact ⟨Nat.div_mul_le_self _ _, Nat.lt_div_mul_add (Nat.two_pow_pos _)⟩

/-- A window that starts with a code is read as the code's instruction. -/
theorem IsRom.decodeBook_encode (h : IsRom book rom nbits lo) {i : Instr} {code len : Nat}
    (hi : encode i = .codeword book code len) {w : BitVec 32} (hw : topBits len w = code) :
    decodeBook book w = some i := by
  subst hw
  obtain ⟨hlen, value, hrow⟩ := h.row i _ len hi
  rw [h.decodes, romLookup, h.romSlot_eq (List.mem_of_find?_eq_some hrow) (covers_of_topBits h.nbits_le hlen rfl),
    Option.map_some]

end

/-! ## The three ROMs -/

/-- A codeword of a book that has a ROM has its row there (spec 30_encoding.md R103, R105-R109). -/
def RowInRom (i : Instr) : Prop :=
  match encode i with
  | .codeword .mode code len => HasRow modeRom 7 i code len
  | .codeword .white code len => HasRow whiteRom 13 i code len
  | .codeword .black code len => HasRow blackRom 13 i code len
  | _ => True

theorem rowInRom (i : Instr) : RowInRom i := by
  cases i
  case mmrInit | mmrScanruns | mmrScanrle | jb2Direct | jb2Cross | ctxInit | writeCtrl | readReg | reserved => trivial
  case eofb | unc | u1 | u01 | u001 | u0001 | u00001 | u00000 | ux => trivial
  all_goals exact ⟨Nat.le_of_ble_eq_true rfl, _, rfl⟩

theorem isRom_mode : IsRom .mode modeRom 7 2 where
  decodes _ := rfl
  nbits_le := by decide
  slots := by rfl
  row i code len h := by
    have hrow := rowInRom i
    rwa [RowInRom, h] at hrow

theorem isRom_white : IsRom .white whiteRom 13 32 where
  decodes _ := rfl
  nbits_le := by decide
  slots := by rfl
  row i code len h := by
    have hrow := rowInRom i
    rwa [RowInRom, h] at hrow

theorem isRom_black : IsRom .black blackRom 13 32 where
  decodes _ := rfl
  nbits_le := by decide
  slots := by rfl
  row i code len h := by
    have hrow := rowInRom i
    rwa [RowInRom, h] at hrow

/-! ## Windows without a codeword -/

/-- Settles O3: the windows that a lookup fails on are those before the slots of the ROM's first row. -/
theorem noMatchWindows : Obligations.NoMatchWindows := by
  intro w
  have h8 : topBits 8 w = topBits 13 w / 2 ^ 5 := topBits_of_le (by decide) (by decide) w
  refine ⟨(IsRom.decodeBook_eq_none_iff isRom_mode w).trans ?_, (IsRom.decodeBook_eq_none_iff isRom_white w).trans ?_,
    (IsRom.decodeBook_eq_none_iff isRom_black w).trans ?_⟩ <;> omega

/-! ## Decoding what is encoded -/

theorem decodeWindow_cons_of_some {b : Book} {w : BitVec 32} {i : Instr} (h : decodeBook b w = some i) (books : List Book) :
    decodeWindow (b :: books) w = some i := List.findSome?_cons_of_isSome (by simp [h]) |>.trans h

theorem decodeWindow_cons_of_none {b : Book} {w : BitVec 32} (h : decodeBook b w = none) (books : List Book) :
    decodeWindow (b :: books) w = decodeWindow books w := List.findSome?_cons_of_isNone (by simp [h])

theorem decodeEscape_encode {i : Instr} {code len : Nat} (hi : encode i = .codeword .esc code len) {w : BitVec 32}
    (hw : topBits len w = code) : decodeEscape w = some i := by
  have h10 : topBits 10 w = topBits 24 w / 2 ^ 14 := topBits_of_le (by decide) (by decide) w
  cases i <;> cases hi
  case eofb => rw [decodeEscape, if_pos hw]
  case unc => rw [decodeEscape, if_neg (by omega), if_pos hw]

/-- Both escapes begin with six zero bits, where MODE_ROM has no codeword (spec 30_encoding.md R104, R113, R114). -/
theorem mode_noMatch_of_escape {i : Instr} {code len : Nat} (hi : encode i = .codeword .esc code len) {w : BitVec 32}
    (hw : topBits len w = code) : decodeBook .mode w = none := by
  have h10 : topBits 7 w = topBits 10 w / 2 ^ 3 := topBits_of_le (by decide) (by decide) w
  have h24 : topBits 7 w = topBits 24 w / 2 ^ 17 := topBits_of_le (by decide) (by decide) w
  refine (IsRom.decodeBook_eq_none_iff isRom_mode w).mpr ?_
  cases i <;> cases hi
  case eofb => omega
  case unc => omega

/-- The codes of uncompressed mode are told apart by their first six bits, the two exits by their first eight
(spec 30_encoding.md R114). -/
theorem decodeUncompressed_encode {i : Instr} {code len : Nat} (hi : encode i = .codeword .unc code len) {w : BitVec 32}
    (hw : topBits len w = code) : decodeUncompressed w = some i := by
  have hfirst {m : Nat} (hm : m ≤ 6) : topBits m w = topBits 6 w / 2 ^ (6 - m) := topBits_of_le hm (by decide) w
  have h1 := hfirst (m := 1) (by decide)
  have h2 := hfirst (m := 2) (by decide)
  have h3 := hfirst (m := 3) (by decide)
  have h4 := hfirst (m := 4) (by decide)
  have h5 := hfirst (m := 5) (by decide)
  have h8 : topBits 6 w = topBits 8 w / 2 ^ 2 := topBits_of_le (by decide) (by decide) w
  rw [decodeUncompressed]
  cases i <;> cases hi
  case u1 => rw [if_neg (by omega), if_neg (by omega), if_pos hw]
  case u01 => rw [if_neg (by omega), if_neg (by omega), if_neg (by omega), if_pos hw]
  case u001 => rw [if_neg (by omega), if_neg (by omega), if_neg (by omega), if_neg (by omega), if_pos hw]
  case u0001 =>
    rw [if_neg (by omega), if_neg (by omega), if_neg (by omega), if_neg (by omega), if_neg (by omega), if_pos hw]
  case u00001 =>
    rw [if_neg (by omega), if_neg (by omega), if_neg (by omega), if_neg (by omega), if_neg (by omega), if_neg (by omega)]
  case u00000 => rw [if_neg (by omega), if_pos hw]
  case ux t =>
    cases t
    case white =>
      have hexit : topBits 8 w = 0b00000010 := hw
      rw [if_pos (by omega), if_pos hexit]
    case black =>
      have hexit : topBits 8 w = 0b00000011 := hw
      rw [if_pos (by omega), if_neg (by omega), if_pos hexit]

/-- A window that starts with a codeword is read as it, at the position where the codeword's book is fetched. -/
theorem decode_window_encode {i : Instr} {book : Book} {code len : Nat} (hi : encode i = .codeword book code len)
    {w : BitVec 32} (hw : topBits len w = code) : decode (.window book.position w) = .ok i := by
  have hread : decodeWindow book.position w = some i := by
    cases book with
    | mode => exact decodeWindow_cons_of_some (IsRom.decodeBook_encode isRom_mode hi hw) _
    | esc =>
      rw [show Book.position .esc = [.mode, .esc] from rfl, decodeWindow_cons_of_none (mode_noMatch_of_escape hi hw)]
      exact decodeWindow_cons_of_some (b := .esc) (decodeEscape_encode hi hw) _
    | unc => exact decodeWindow_cons_of_some (b := .unc) (decodeUncompressed_encode hi hw) _
    | white => exact decodeWindow_cons_of_some (IsRom.decodeBook_encode isRom_white hi hw) _
    | black => exact decodeWindow_cons_of_some (IsRom.decodeBook_encode isRom_black hi hw) _
  rw [decode, hread]

theorem commandInstr_encode {i : Instr} {c : Command} (hi : encode i = .command c) (hw : i.wellFormed = true) :
    commandInstr c = some i := by
  cases i
  case mmrInit s => cases hi; exact Laws.EncodesWithin.mmrInit s hw
  case mmrScanruns => cases hi; exact Laws.EncodesWithin.mmrScanruns hw
  case mmrScanrle => cases hi; exact Laws.EncodesWithin.mmrScanrle hw
  case jb2Direct dw dh => cases hi; exact Laws.EncodesWithin.jb2Direct dw dh hw
  case jb2Cross dw dh mb box => cases hi; exact Laws.EncodesWithin.jb2Cross dw dh mb box hw
  case ctxInit => cases hi; exact Laws.EncodesWithin.ctxInit hw
  case writeCtrl v => cases hi; exact Laws.EncodesWithin.writeCtrl v hw
  case readReg n => cases hi; exact Laws.EncodesWithin.readReg n hw
  case reserved op => cases hi; exact Laws.EncodesWithin.reserved op hw
  all_goals nomatch hi

theorem decode_command_encode {i : Instr} {c : Command} (hi : encode i = .command c) (hw : i.wellFormed = true) :
    decode (.command c) = .ok i := by
  rw [decode, decodeCommand, commandInstr_encode hi hw]
  exact if_pos hw

/-- Settles O1: a command by its packet, a codeword by the lookup in its book. -/
theorem decodeEncodeAgree : Obligations.DecodeEncodeAgree := by
  intro i hw
  split
  next c hi => exact decode_command_encode hi hw
  next book code len hi => exact fun w => decode_window_encode hi

/-- Settles O2: each word starts with the code of its instruction. -/
theorem specWordsDecode : Obligations.SpecWordsDecode :=
  ⟨decode_window_encode (i := .v0) rfl rfl, decode_window_encode (i := .p) rfl rfl, decode_window_encode (i := .vr3) rfl rfl,
    decode_window_encode (i := .eofb) rfl rfl, decode_window_encode (i := .unc) rfl rfl,
    decode_window_encode (i := .ux .black) rfl rfl, decode_window_encode (i := .wt0) rfl rfl,
    decode_window_encode (i := .bt0) rfl rfl, decode_window_encode (i := .bx2560) rfl rfl,
    decode_command_encode (i := .writeCtrl 2) rfl rfl, decode_command_encode (i := .reserved 0x09) rfl rfl⟩

end Sys2Proof.Machine

/-! # Run chains -/

namespace Sys2Proof.Machine

/-- A chain that Horizontal mode reads as a run of n pixels (spec 30_encoding.md R111): makeup codes, then one terminating code, all
of one colour's table, whose values sum to n. -/
def IsRunChain (c : Colour) (n : Nat) (chain : List Instr) : Prop :=
  ∃ (makeup : List RomRow) (last : RomRow), chain = (makeup ++ [last]).map RomRow.instr ∧
    (∀ r ∈ makeup, r ∈ runRom c ∧ 64 ≤ r.value) ∧ last ∈ runRom c ∧ last.value < 64 ∧
    ((makeup ++ [last]).map RomRow.value).sum = n

/-- The table of a colour has exactly one row for the value v. -/
def HasEntry (c : Colour) (v : Nat) : Prop := ((runRom c).filter fun r => r.value == v).length = 1

theorem HasEntry.exists_row {c : Colour} {v : Nat} (h : HasEntry c v) :
    ∃ r ∈ runRom c, r.value = v ∧ runEntry c v = [r.instr] := by
  obtain ⟨r, hr⟩ := List.length_eq_one_iff.mp h
  have hmem : r ∈ (runRom c).filter fun r => r.value == v := hr ▸ List.mem_singleton_self r
  obtain ⟨hrom, hv⟩ := List.mem_filter.mp hmem
  exact ⟨r, hrom, eq_of_beq hv, congrArg (List.map RomRow.instr) hr⟩

/-- The values of the run tables: up to 63, and the multiples of 64 up to 2560 (spec 30_encoding.md R105-R109). -/
theorem hasEntry (c : Colour) : (∀ v < 64, HasEntry c v) ∧ ∀ k < 41, HasEntry c (64 * k) := by
  unfold HasEntry
  cases c
  case white => decide +kernel
  case black => decide +kernel

theorem isRunChain_terminating {c : Colour} {n : Nat} (hn : n < 64) : IsRunChain c n (runEntry c n) := by
  obtain ⟨r, hr, rfl, hentry⟩ := ((hasEntry c).1 n hn).exists_row
  exact ⟨[], r, hentry, by simp, hr, hn, by simp⟩

/-- A makeup code of value 64 k in front of a chain lengthens its run by 64 k. -/
theorem IsRunChain.makeup {c : Colour} {n k : Nat} {chain : List Instr} (h : IsRunChain c n chain) (hk : k < 41) (hpos : 0 < k) :
    IsRunChain c (64 * k + n) (runEntry c (64 * k) ++ chain) := by
  obtain ⟨r, hr, hv, hentry⟩ := ((hasEntry c).2 k hk).exists_row
  obtain ⟨makeup, last, rfl, hmakeup, hlast, hlt, rfl⟩ := h
  refine ⟨r :: makeup, last, by simp [hentry], ?_, hlast, hlt, by simp [hv]⟩
  rintro q (_ | ⟨_, hq⟩)
  · exact ⟨hr, by omega⟩
  · exact hmakeup q hq

theorem isRunChain_expandTail {c : Colour} {n : Nat} (hn : n < 2624) : IsRunChain c n (expandTail c n) := by
  unfold expandTail
  split
  next hlt => exact isRunChain_terminating hlt
  next hge =>
    have hchain := (isRunChain_terminating (c := c) (Nat.mod_lt n (by decide : 64 > 0))).makeup
      (k := n / 64) (by omega) (by omega)
    rwa [Nat.div_add_mod] at hchain

/-- The bound on the number of 2560-codes is enough. -/
theorem isRunChain_expandWith {c : Colour} (k : Nat) : ∀ n, n / 2560 ≤ k → IsRunChain c n (expandWith c k n) := by
  induction k with
  | zero => exact fun n hn => isRunChain_expandTail (by omega)
  | succ k ih =>
    intro n hn
    unfold expandWith
    split
    next hge =>
      have hchain := (ih (n - 2560) (by omega)).makeup (k := 40) (by decide) (by decide)
      rwa [Nat.add_sub_cancel' (by omega)] at hchain
    next hlt => exact isRunChain_expandTail (by omega)

/-- Settles O4: 2560-codes until the rest is below 2624, which one makeup code and one terminating code stand for. -/
theorem expandIsRunChain : Obligations.ExpandIsRunChain := fun _ n => isRunChain_expandWith _ n (Nat.le_refl _)

end Sys2Proof.Machine

/-! # The RLE bytes of a row -/

namespace Sys2Proof.Machine

theorem readUnits_short {b : Byte} (hb : b.toNat < 0xc0) (l : List Byte) : readUnits (b :: l) = b.toNat :: readUnits l := by
  rw [readUnits.eq_def]
  exact if_pos hb

theorem readUnits_long {b : Byte} (hb : ¬ b.toNat < 0xc0) (b2 : Byte) (l : List Byte) :
    readUnits (b :: b2 :: l) = ((b.toNat - 0xc0) * 256 + b2.toNat) :: readUnits l := by
  rw [readUnits.eq_def]
  exact if_neg hb

theorem readUnits_encodeUnit {n : Nat} (hn : n ≤ 16383) (l : List Byte) :
    readUnits (encodeUnit n ++ l) = n :: readUnits l := by
  unfold encodeUnit
  split
  next hlt =>
    have hb : (BitVec.ofNat 8 n).toNat = n := by rw [BitVec.toNat_ofNat]; omega
    rw [List.singleton_append, readUnits_short (by omega), hb]
  next hge =>
    have hb : (BitVec.ofNat 8 (0xc0 + n / 256)).toNat = 0xc0 + n / 256 := by rw [BitVec.toNat_ofNat]; omega
    have hb2 : (BitVec.ofNat 8 (n % 256)).toNat = n % 256 := by rw [BitVec.toNat_ofNat]; omega
    rw [List.cons_append, List.singleton_append, readUnits_long (by omega), hb, hb2, Nat.add_sub_cancel_left,
      Nat.div_add_mod']

/-- The triplet of a long run: 16383 pixels and an empty run of the other colour (spec 30_encoding.md R118, R119). -/
theorem readUnits_triplet (l : List Byte) : readUnits (0xff :: 0xff :: 0x00 :: l) = 16383 :: 0 :: readUnits l := by
  rw [readUnits_long (by decide), readUnits_short (by decide)]
  rfl

theorem other_other (c : Colour) : c.other.other = c := by cases c <;> rfl

/-- The bytes of a run read back to its pixels. -/
theorem pixels_readUnits_encodeRunWith (c : Colour) (k : Nat) : ∀ n, n / 16383 ≤ k → ∀ l : List Byte,
    pixelsFrom c (readUnits (encodeRunWith k n ++ l)) = List.replicate n c ++ pixelsFrom c.other (readUnits l) := by
  induction k with
  | zero =>
    intro n hn l
    rw [encodeRunWith, readUnits_encodeUnit (by omega), pixelsFrom]
  | succ k ih =>
    intro n hn l
    rw [encodeRunWith]
    split
    next hlong =>
      rw [List.append_assoc]
      calc pixelsFrom c (readUnits ([0xff, 0xff, 0x00] ++ (encodeRunWith k (n - 16383) ++ l)))
          = List.replicate 16383 c ++ pixelsFrom c (readUnits (encodeRunWith k (n - 16383) ++ l)) := by
            rw [List.cons_append, List.cons_append, List.singleton_append, readUnits_triplet, pixelsFrom, pixelsFrom,
              List.replicate_zero, List.nil_append, other_other]
        _ = List.replicate (16383 + (n - 16383)) c ++ pixelsFrom c.other (readUnits l) := by
            rw [ih _ (by omega), ← List.replicate_append_replicate, List.append_assoc]
        _ = List.replicate n c ++ pixelsFrom c.other (readUnits l) := by rw [Nat.add_sub_cancel' (by omega)]
    next hshort => rw [readUnits_encodeUnit (by omega), pixelsFrom]

theorem pixels_readUnits_encodeRun (c : Colour) (n : Nat) (l : List Byte) :
    pixelsFrom c (readUnits (encodeRun n ++ l)) = List.replicate n c ++ pixelsFrom c.other (readUnits l) :=
  pixels_readUnits_encodeRunWith c _ n (Nat.le_refl _) l

theorem pixelsFrom_eq_nil {l : List Nat} : ∀ {c : Colour}, l.sum = 0 → pixelsFrom c l = [] := by
  induction l with
  | nil => exact fun _ => rfl
  | cons n l ih =>
    intro c h
    rw [List.sum_cons, Nat.add_eq_zero_iff] at h
    obtain ⟨rfl, hl⟩ := h
    rw [pixelsFrom, ih hl, List.replicate_zero, List.append_nil]

/-- The encoder stops when the runs so far reach W: what is left has no pixel (spec 42_mmr_commands.md R220). -/
theorem pixels_readUnits_encodeRowFrom {w : Nat} {l : List Nat} : ∀ {c : Colour} {sum : Nat}, sum + l.sum = w →
    pixelsFrom c (readUnits (encodeRowFrom w sum l)) = pixelsFrom c l := by
  induction l with
  | nil => exact fun _ => rfl
  | cons n l ih =>
    intro c sum h
    rw [encodeRowFrom]
    split
    next hend => rw [pixelsFrom_eq_nil (l := n :: l) (by omega)]; rfl
    next hmore => rw [pixels_readUnits_encodeRun, ih (by rw [List.sum_cons] at h; omega), pixelsFrom]

theorem length_encodeUnit_le (n : Nat) : (encodeUnit n).length ≤ 2 := by
  unfold encodeUnit
  split <;> simp

/-- Three bytes for each 16383 pixels of a run, and two for the rest. -/
theorem length_encodeRunWith_le (k : Nat) : ∀ n, (encodeRunWith k n).length ≤ 2 + 3 * (n / 16383) := by
  induction k with
  | zero => exact fun n => Nat.le_add_right_of_le (length_encodeUnit_le n)
  | succ k ih =>
    intro n
    rw [encodeRunWith]
    split
    next hlong =>
      have hrest := ih (n - 16383)
      simp only [List.length_append, List.length_cons, List.length_nil]
      omega
    next hshort => exact Nat.le_add_right_of_le (length_encodeUnit_le n)

theorem length_encodeRowFrom_le {w : Nat} {l : List Nat} : ∀ {sum : Nat},
    (encodeRowFrom w sum l).length ≤ 2 * l.length + 3 * (l.sum / 16383) := by
  induction l with
  | nil => exact Nat.zero_le _
  | cons n l ih =>
    intro sum
    rw [encodeRowFrom]
    split
    next hend => exact Nat.zero_le _
    next hmore =>
      have hrun : (encodeRun n).length ≤ 2 + 3 * (n / 16383) := length_encodeRunWith_le _ n
      have hrest := ih (sum := sum + n)
      simp only [List.length_append, List.length_cons, List.sum_cons]
      omega

/-- Settles O42: run by run, for the pixels and for the bound. -/
theorem rleBytesReadBack : Obligations.RleBytesReadBack := by
  rintro _ l rfl
  exact ⟨pixels_readUnits_encodeRowFrom (Nat.zero_add _), length_encodeRowFrom_le⟩

end Sys2Proof.Machine

/-! # The row program: what each codeword of a row does -/

namespace Sys2Proof.Machine

/-! ## What a row may change -/

/-- The state s with the registers of the row in progress taken from t: CUR, the row-local registers of 10_state.md R27 and the
position. -/
def State.withRowLocal (s t : State) : State :=
  { s with
    cur := t.cur, a0 := t.a0, b1 := t.b1, pr := t.pr, rle := t.rle, color := t.color, cwstart := t.cwstart, pos := t.pos }

/-- t differs from s at most in the registers of the row in progress. -/
def RowLocal (s t : State) : Prop := t = s.withRowLocal t

theorem RowLocal.trans {s t u : State} (hst : RowLocal s t) (htu : RowLocal t u) : RowLocal s u :=
  calc
    u = t.withRowLocal u := htu
    _ = (s.withRowLocal t).withRowLocal u := congrArg (State.withRowLocal · u) hst

/-- The return of a row writes or frees every register of the row in progress. -/
theorem rowReturned_of_rowLocal {s t : State} (h : RowLocal s t) (row : List Nat) : rowReturned t row = rowReturned s row := by
  rw [h]
  rfl

/-- The error entry leaves nothing to be seen of the registers of the row in progress (spec 60_exceptions.md R309). -/
theorem mmrFailed_of_rowLocal {e : ErrCode} {bit : BitVec 35} {s r t : State} (h : RowLocal s r)
    (ht : MmrFailed e bit r t) : MmrFailed e bit s t := by
  rw [h] at ht
  exact ht

/-- A codeword that raises has failed with that error, whatever it did to the row before. -/
theorem finishMmr_raises {x : Try State} {e : ErrCode} {bit : BitVec 35} {r s : State} (hx : x = .error ⟨e, bit, r⟩)
    (h : RowLocal s r) : ∃ t, finishMmr x = .next t ∧ MmrFailed e bit s t := by
  subst hx
  exact ⟨_, rfl, mmrFailed_of_rowLocal h (mmrErrorEntry_spec e bit r)⟩

/-- s with a codeword of n bits consumed. -/
abbrev State.taken (n : Nat) (s : State) : State := { s with cwstart := s.bitpos, bitpos := s.after n }

theorem rowLocal_taken (n : Nat) (s : State) : RowLocal { s with bitpos := s.after n } (s.taken n) := rfl

theorem rowLocal_resync (s : State) : RowLocal s (resync s) := rfl

/-- What begins with a codeword that the data hold goes on from the consumed codeword. -/
theorem takeCodeword_bind {n : Nat} {s : State} (h : HasBits s n) (f : State → Try State) :
    (takeCodeword n s >>= f) = f (s.taken n) := by
  rw [takeCodeword_ok h, try_ok_bind]

/-! ## What each codeword runs -/

/-- At the mode position a Vertical mode runs `Vertical(k)` (spec 40_mmr_modes.md R156-R163). -/
theorem exec_vertical {e : Instr × Int × Nat} (he : e ∈ verticalModes) {s : State} (hp : s.pos = .mode)
    (hb : HasBits s e.2.2) : exec e.1 s = finishMmr (verticalMode e.2.1 (s.taken e.2.2)) := by
  have hmode : ∃ close, exec e.1 s = modeCodeword e.2.2 (verticalMode e.2.1) close s := by
    simp only [verticalModes, List.mem_cons, List.not_mem_nil, or_false] at he
    obtain rfl | rfl | rfl | rfl | rfl | rfl | rfl := he <;> exact ⟨_, rfl⟩
  obtain ⟨close, hexec⟩ := hmode
  rw [hexec, modeCodeword_mode hp, takeCodeword_bind hb]

/-- At the trailing-run check a mode other than V0 is rejected (spec 40_mmr_modes.md R167). -/
theorem exec_modeButV0_trailing {e : Instr × Nat} (he : e ∈ modesButV0) {s : State} (hp : s.pos = .trailing)
    (hb : HasBits s e.2) : exec e.1 s = finishMmr (rejectTrailing (s.taken e.2)) := by
  have hmode : ∃ body, exec e.1 s = modeCodeword e.2 body rejectTrailing s := by
    simp only [modesButV0, List.mem_cons, List.not_mem_nil, or_false] at he
    obtain rfl | rfl | rfl | rfl | rfl | rfl | rfl | rfl := he <;> exact ⟨_, rfl⟩
  obtain ⟨body, hexec⟩ := hmode
  rw [hexec, modeCodeword_trailing hp, takeCodeword_bind hb]

/-- At the trailing-run check V0 closes the pending run (spec 40_mmr_modes.md R167). -/
theorem exec_v0_trailing {s : State} (hp : s.pos = .trailing) (hb : HasBits s 1) :
    exec .v0 s = finishMmr (closeTrailing (s.taken 1)) := by
  rw [show exec .v0 s = execV0 s from rfl, execV0, modeCodeword_trailing hp, takeCodeword_bind hb]

theorem exec_p {s : State} (hp : s.pos = .mode) (hb : HasBits s 4) :
    exec .p s = finishMmr (afterMode (pass (s.taken 4))) := by
  rw [show exec .p s = execP s from rfl, execP, modeCodeword_mode hp, takeCodeword_bind hb]

/-- The exit of uncompressed mode (spec 41_mmr_escapes.md R198, R200). -/
theorem exec_ux {c : Colour} {s : State} (hp : s.pos = .unc) (hb : HasBits s 8) :
    exec (.ux c) s = finishMmr (exitFixup c (s.taken 8) >>= afterMode) := by
  rw [show exec (.ux c) s = execUx c s from rfl, execUx, codewordAt_at hp]
  exact congrArg finishMmr (takeCodeword_bind hb _)

/-- `000001` (spec 41_mmr_escapes.md R195). -/
theorem exec_u00000 {s : State} (hp : s.pos = .unc) (hb : HasBits s 6) :
    exec .u00000 s = finishMmr (uWhites 5 (s.taken 6) >>= uCheck) := by
  rw [show exec .u00000 s = execU00000 s from rfl, execU00000, codewordAt_at hp]
  exact congrArg finishMmr (takeCodeword_bind hb _)

/-- Inside uncompressed mode a literal code runs its pixels bit by bit (spec 41_mmr_escapes.md R193, R194). -/
theorem exec_literal {e : Instr × Nat} (he : e ∈ literalCodes) {s : State} (hp : s.pos = .unc) :
    exec e.1 s = finishMmr (uLiteral e.2 s) := by
  simp only [literalCodes, List.mem_cons, List.not_mem_nil, or_false] at he
  obtain rfl | rfl | rfl | rfl | rfl := he <;> exact codewordAt_at hp _

/-- An entry of a colour's run table acts through `runCodeword` with its own value and length. -/
def RunRowActs (c : Colour) (r : RomRow) : Prop := ∀ s, exec r.instr s = runCodeword c r.value r.len s

theorem runRowActs_white : ∀ r ∈ whiteRom, RunRowActs .white r := by
  simp only [whiteRom, List.forall_mem_append]
  refine ⟨⟨?_, ?_⟩, ?_⟩
  all_goals
    repeat refine List.forall_mem_cons.mpr ⟨fun _ => rfl, ?_⟩
    exact List.forall_mem_nil _

theorem runRowActs_black : ∀ r ∈ blackRom, RunRowActs .black r := by
  simp only [blackRom, List.forall_mem_append]
  refine ⟨⟨?_, ?_⟩, ?_⟩
  all_goals
    repeat refine List.forall_mem_cons.mpr ⟨fun _ => rfl, ?_⟩
    exact List.forall_mem_nil _

/-- Every run codeword acts with the colour, value and length of its table (spec 30_encoding.md R105-R109). -/
theorem runRowActs {c : Colour} {r : RomRow} (hr : r ∈ runRom c) : RunRowActs c r := by
  cases c with
  | white => exact runRowActs_white r hr
  | black => exact runRowActs_black r hr

/-- A run codeword where its colour is read: its value joins the run (spec 40_mmr_modes.md R155). -/
theorem exec_run {c : Colour} {r : RomRow} (hr : r ∈ runRom c) {s : State} (hc : s.runColour = some c)
    (hb : HasBits s r.len) : exec r.instr s = finishMmr (addRun r.value (s.taken r.len)) := by
  rw [runRowActs hr s, runCodeword_at hc, takeCodeword_bind hb]

theorem runColour_run1 {c : Colour} {s : State} (hp : s.pos = .run1) (hc : s.color = c) : s.runColour = some c := by
  simp only [State.runColour, hp, hc]

theorem runColour_run2 {c : Colour} {s : State} (hp : s.pos = .run2) (hc : s.color.other = c) : s.runColour = some c := by
  simp only [State.runColour, hp, hc]

/-! ## Resynchronisation -/

theorem sum_take_add_sum_drop (l : List Nat) (j : Nat) : (l.take j).sum + (l.drop j).sum = l.sum := by
  rw [← List.sum_append_nat, List.take_append_drop]

/-- `Resync()` from a reference pointer whose B1 is the sum of the runs before PR: it moves PR by n pairs of runs and B1 with it, it
stops right of A0 or at W, and what it passes over lies at or left of A0 (spec 40_mmr_modes.md R165). -/
theorem resync_spec {s : State} (hb : s.b1 = refPrefix s s.pr) (hsum : s.ref.sum = s.width.toNat) :
    ∃ n, (resync s).pr = s.pr + 2 * n ∧ (resync s).b1 = refPrefix s (s.pr + 2 * n) ∧
      (s.a0 < (resync s).b1 ∨ (resync s).b1 = s.width.toNat) ∧ 2 * n ≤ s.ref.length - s.pr + 1 ∧
      ∀ j < n, refPrefix s (s.pr + 2 * j) ≤ s.a0 := by
  have hprefix (m : Nat) : refPrefix s (s.pr + m) = s.b1 + ((s.ref.drop s.pr).take m).sum := by
    rw [hb, refPrefix, take_sum_split, Int.natCast_add]
  have hrest : s.b1 + (s.ref.drop s.pr).sum = (s.width.toNat : Int) := by
    rw [← hsum, ← sum_take_add_sum_drop s.ref s.pr, Int.natCast_add, hb]
  obtain ⟨n, hpr, hb1, hstop, hn, hpassed⟩ := resyncLoop_spec s.a0 s.width.toNat (s.ref.drop s.pr) s.b1 s.pr hrest
  rw [List.length_drop] at hn
  exact ⟨n, hpr, hb1.trans (hprefix _).symm, hstop, hn, fun j hj => hprefix (2 * j) ▸ hpassed j hj⟩

/-- Settles O24: what the loop passes over are the transitions of its colour. -/
theorem resyncFindsNextTransition : Obligations.ResyncFindsNextTransition := by
  intro s hb hsum
  obtain ⟨n, hpr, hb1, hstop, -, hpassed⟩ := resync_spec hb hsum
  rw [hpr]
  refine ⟨hb1, by omega, by omega, hstop, fun j hle hlt hpar => ?_⟩
  obtain ⟨m, rfl⟩ : ∃ m, j = s.pr + 2 * m := ⟨(j - s.pr) / 2, by omega⟩
  exact hpassed m (by omega)

/-! ## The end of a mode -/

/-- The row goes on while A0 < W (spec 40_mmr_modes.md R152, R165). -/
theorem afterMode_within {s : State} (h : s.a0 < s.width.toNat) : afterMode s = .ok (resync { s with pos := .mode }) :=
  rowLoop_within (s := resync s) h

/-- At W with a run pending the trailing-run check follows (spec 40_mmr_modes.md R166, R167). -/
theorem afterMode_trailing {s : State} (h : (s.width.toNat : Int) ≤ s.a0) (hr : 0 < s.rle) :
    afterMode s = .ok (resync { s with pos := .trailing }) :=
  rowLoop_trailing (s := resync s) h hr

/-- At W with nothing pending the row is closed. -/
theorem afterMode_ends {s : State} (h : (s.width.toNat : Int) ≤ s.a0) (hr : s.rle ≤ 0) :
    afterMode s = closeRow (resync s) :=
  rowLoop_ends (s := resync s) h hr

/-- A row that is closed at W is returned (spec 40_mmr_modes.md R166, R169). -/
theorem closeRow_returns {s t : State} (hl : RowLocal s t) (h : t.a0 = t.width.toNat) :
    closeRow t = .ok (rowReturned s t.cur) := by
  rw [closeRow_at_width (Int.le_of_eq h), rowReturned_of_rowLocal hl]

/-- A mode that ends at W with nothing pending returns the row (spec 40_mmr_modes.md R166, R169). -/
theorem afterMode_returns {s t : State} (hl : RowLocal s t) (h : t.a0 = t.width.toNat) (hr : t.rle ≤ 0) :
    afterMode t = .ok (rowReturned s t.cur) := by
  rw [afterMode_ends (Int.le_of_eq h.symm) hr]
  exact closeRow_returns (hl.trans (rowLocal_resync t)) h

/-- A mode that ends past W raises without the clamp (spec 40_mmr_modes.md R168). -/
theorem afterMode_overshoot {s : State} (h : (s.width.toNat : Int) < s.a0) (hr : s.rle ≤ 0) (hc : s.ovrClamp = false) :
    afterMode s = .error ⟨.corruptMMRStream, s.cwstart, resync s⟩ := by
  rw [afterMode_ends (Int.le_of_lt h) hr]
  exact closeRow_overshoot (s := resync s) h hc

theorem rowLocal_clampRow (s : State) : RowLocal s (clampRow s) := by
  unfold clampRow
  dsimp only
  split <;> rfl

/-- A mode that ends past W returns the clamped row (spec 40_mmr_modes.md R168). -/
theorem afterMode_clamp {s t : State} (hl : RowLocal s t) (h : (t.width.toNat : Int) < t.a0) (hr : t.rle ≤ 0)
    (hc : t.ovrClamp = true) : afterMode t = .ok (rowReturned s (clampRow (resync t)).cur) := by
  have hclamp : RowLocal s (clampRow (resync t)) := hl.trans ((rowLocal_resync t).trans (rowLocal_clampRow _))
  rw [afterMode_ends (Int.le_of_lt h) hr, closeRow_clamp (s := resync t) h hc, rowReturned_of_rowLocal hclamp]

/-! ## Vertical modes -/

/-- The state in which `Vertical(k)` ends when its run can be emitted (spec 40_mmr_modes.md R163). -/
def afterVertical (k : Int) (s : State) : State :=
  { s with
    cur := s.cur ++ [(verticalRun s k).toNat]
    a0 := s.b1 + k
    rle := 0
    color := s.color.other
    b1 := if 0 ≤ k then s.b1 + s.refAt s.pr else s.b1 - s.refAt (s.pr - 1)
    pr := if 0 ≤ k then s.pr + 1 else s.pr - 1 }

theorem moveRef_eq (k : Int) (s : State) :
    moveRef k s = { s with
      b1 := if 0 ≤ k then s.b1 + s.refAt s.pr else s.b1 - s.refAt (s.pr - 1)
      pr := if 0 ≤ k then s.pr + 1 else s.pr - 1 } := by
  unfold moveRef
  split <;> rfl

theorem rowLocal_moveRef (k : Int) (s : State) : RowLocal s (moveRef k s) := by
  rw [moveRef_eq]
  rfl

theorem rowLocal_afterVertical (k : Int) (s : State) : RowLocal s (afterVertical k s) := rfl

theorem vertical_ok {k : Int} {s : State} (hv : 0 ≤ verticalRun s k) (hc : s.cur.length < s.width.toNat + 2) :
    vertical k s = .ok (afterVertical k s) := by
  rw [vertical, moveRef_eq, emit_ok (by exact hv) (by exact hc)]
  rfl

/-- The run is rejected: nothing but the reference pointer has moved (spec 40_mmr_modes.md R163, R164). -/
theorem vertical_raises {k : Int} {s : State} (h : CannotEmit s (verticalRun s k)) :
    vertical k s = .error ⟨.corruptMMRStream, s.cwstart, moveRef k s⟩ := by
  rw [vertical, moveRef_eq, emit_raises (by exact h)]
  rfl

/-- If `Vertical(k)` answers a state, its run could be emitted. -/
theorem vertical_eq_ok {k : Int} {s t : State} (h : vertical k s = .ok t) :
    0 ≤ verticalRun s k ∧ s.cur.length < s.width.toNat + 2 ∧ t = afterVertical k s := by
  by_cases hr : CannotEmit s (verticalRun s k)
  · rw [vertical_raises hr] at h
    cases h
  · have hv : 0 ≤ verticalRun s k := by omega
    have hc : s.cur.length < s.width.toNat + 2 := by omega
    rw [vertical_ok hv hc] at h
    cases h
    exact ⟨hv, hc, rfl⟩

/-- A Vertical mode whose run can be emitted, up to what follows a mode. -/
theorem exec_vertical_ok {e : Instr × Int × Nat} (he : e ∈ verticalModes) {s : State} (hp : s.pos = .mode)
    (hb : HasBits s e.2.2) (hc : s.cur.length < s.width.toNat + 2) (hv : 0 ≤ verticalRun s e.2.1) :
    exec e.1 s = finishMmr (afterMode (afterVertical e.2.1 (s.taken e.2.2))) := by
  rw [exec_vertical he hp hb, verticalMode, vertical_ok (by exact hv) (by exact hc), try_ok_bind]

/-- Settles O20: the run is emitted and the row goes on left of W. -/
theorem verticalWithinRow : Obligations.VerticalWithinRow := by
  intro e he s hp hb hc hv hw
  rw [exec_vertical_ok he hp hb hc hv, afterMode_within (by exact hw)]
  rfl

/-- Settles O21: the run is emitted and the row, which ends at W, is returned. -/
theorem verticalEndsRow : Obligations.VerticalEndsRow := by
  intro e he s hp hb hc hv hw
  have hlocal := (rowLocal_taken e.2.2 s).trans (rowLocal_afterVertical e.2.1 _)
  rw [exec_vertical_ok he hp hb hc hv, afterMode_returns hlocal hw (Int.le_refl 0)]
  rfl

/-! ## Pass, Horizontal and the uncompressed entry -/

/-- Settles O22: `pass` itself, then the row loop's test in its two cases. -/
theorem passExtendsRunToB2 : Obligations.PassExtendsRunToB2 := by
  intro s hp hb
  rw [exec_p hp hb]
  constructor
  · intro hw
    rw [afterMode_within (by exact hw)]
    rfl
  · intro hw hr
    rw [afterMode_trailing (by exact Int.le_of_eq hw.symm) (by exact hr)]
    rfl

/-- Settles O23: neither touches the row. -/
theorem horizontalAndUncompressedEntry : Obligations.HorizontalAndUncompressedEntry := by
  intro s hp
  constructor
  · intro hb
    rw [show exec .h s = execH s from rfl, execH, modeCodeword_mode hp, takeCodeword_bind hb]
    rfl
  · intro hb
    rw [show exec .unc s = execUnc s from rfl, execUnc, codewordAt_at hp]
    exact congrArg finishMmr (takeCodeword_bind hb _)

/-! ## Run codewords -/

/-- Settles O25: `addRun` for a value of 64 or more. -/
theorem makeupCodeExtendsRun : Obligations.MakeupCodeExtendsRun := by
  intro c r hr hv s hc hb ha
  rw [exec_run hr hc hb, addRun_makeup (by exact ha) hv]
  rfl

/-- Settles O26: `addRun` for a value below 64, then the end of the first run. -/
theorem firstRunEnds : Obligations.FirstRunEnds := by
  intro c r hr hv s hp hc hb ha hrle hcur
  rw [exec_run hr (runColour_run1 hp hc) hb, addRun_terminating (by exact ha) hv,
    endRun_first (by exact hp) (by exact hrle) (by exact hcur)]
  rfl

/-- The state in which the second run of Horizontal mode has been emitted (spec 40_mmr_modes.md R154, R155). -/
def afterSecondRun (v : Nat) (s : State) : State :=
  { s with a0 := s.a0 + v, cur := s.cur ++ [(s.rle + v).toNat], rle := 0 }

theorem rowLocal_afterSecondRun (v : Nat) (s : State) : RowLocal s (afterSecondRun v s) := rfl

/-- A terminating code of the second run, up to what follows a mode. -/
theorem exec_secondRun {c : Colour} {r : RomRow} (hr : r ∈ runRom c) (hv : r.value < 64) {s : State} (hp : s.pos = .run2)
    (hc : s.color.other = c) (hb : HasBits s r.len) (hrle : 0 ≤ s.rle + r.value)
    (hcur : s.cur.length < s.width.toNat + 2) (ha : s.a0 + r.value ≤ 131072) :
    exec r.instr s = finishMmr (afterMode (afterSecondRun r.value (s.taken r.len))) := by
  rw [exec_run hr (runColour_run2 hp hc) hb, addRun_terminating (by exact ha) hv,
    endRun_second (by exact hp) (by exact hrle) (by exact hcur)]
  rfl

/-- W is far below A0_LIMIT (spec 10_state.md R23, 40_mmr_modes.md R171). -/
theorem width_lt (s : State) : s.width.toNat < 65536 := s.width.isLt

/-- Settles O27: the second run's end, left of W. -/
theorem secondRunWithinRow : Obligations.SecondRunWithinRow := by
  intro c r hr hv s hp hc hb hw hrle hcur
  have hwidth := width_lt s
  rw [exec_secondRun hr hv hp hc hb hrle hcur (by omega), afterMode_within (by exact hw)]
  rfl

/-- Settles O28: the second run's end, at W. -/
theorem secondRunEndsRow : Obligations.SecondRunEndsRow := by
  intro c r hr hv s hp hc hb hw hrle hcur
  have hwidth := width_lt s
  have hlocal := (rowLocal_taken r.len s).trans (rowLocal_afterSecondRun r.value _)
  rw [exec_secondRun hr hv hp hc hb hrle hcur (by omega), afterMode_returns hlocal hw (Int.le_refl 0)]
  rfl

/-! ## The trailing-run check -/

/-- The run that is pending at W is emitted and the row returned (spec 40_mmr_modes.md R167). -/
theorem closeTrailing_returns {s t : State} (hl : RowLocal s t) (ha : t.a0 = t.width.toNat) (hr : 0 ≤ t.rle)
    (hc : t.cur.length < t.width.toNat + 2) : closeTrailing t = .ok (rowReturned s (t.cur ++ [t.rle.toNat])) := by
  have hemit : RowLocal t { t with cur := t.cur ++ [t.rle.toNat], rle := 0 } := rfl
  rw [closeTrailing, emitPending_ok hr hc, try_ok_bind, closeRow_returns (hl.trans hemit) ha]

/-- Settles O34: V0 runs `closeTrailing`, which emits and closes. -/
theorem trailingRunClosedByV0 : Obligations.TrailingRunClosedByV0 := by
  intro s hp hb ha hr hc
  rw [exec_v0_trailing hp hb, closeTrailing_returns (rowLocal_taken 1 s) ha (Int.le_of_lt hr) hc]
  rfl

/-- Settles O35: the codeword is consumed before it is rejected. -/
theorem trailingRunRejectsOtherModes : Obligations.TrailingRunRejectsOtherModes := by
  intro e he s hp hb
  rw [exec_modeButV0_trailing he hp hb]
  exact finishMmr_raises (r := s.taken e.2) rfl rfl

end Sys2Proof.Machine

/-! # The row invariants through the end of a mode and of a row -/

namespace Sys2Proof.Machine

/-! ## The invariants of a row in progress -/

/-- A row is in progress: the unit is ACTIVE, the reference line is sound and so is the row so far. -/
abbrev OpenRow (s : State) : Prop := s.mmrState = .active ∧ LineOk s ∧ CurOk s

theorem LineOk.ref_sum {s : State} (h : LineOk s) : s.ref.sum = s.width.toNat :=
  let ⟨_, _, hsum, _⟩ := h
  hsum

theorem OpenRow.rle_nonneg {s : State} (h : OpenRow s) : 0 ≤ s.rle :=
  let ⟨_, _, _, hrle, _⟩ := h
  hrle

/-- The reference pointer as `Resync()` finds it: PR may still be 0 (spec 40_mmr_modes.md R163, R170 (a), (c), (f)). -/
abbrev PointerAt (s : State) : Prop :=
  s.b1 = refPrefix s s.pr ∧ s.pr % 2 = (s.color.toNat + 1) % 2 ∧ s.pr ≤ s.ref.length + 1

theorem PointerOk.pointerAt {s : State} (h : PointerOk s) : PointerAt s :=
  let ⟨hb, _, hpar, hle⟩ := h
  ⟨hb, hpar, hle⟩

theorem rowOk_mode_iff {s : State} (hp : s.pos = .mode) :
    RowOk s ↔ OpenRow s ∧ s.a0 < s.width.toNat ∧ s.a0 ≤ s.b1 ∧ PointerOk s ∧ ParityOk s := by
  simp only [RowOk, OpenRow, hp]
  grind

theorem rowOk_run1_iff {s : State} (hp : s.pos = .run1) :
    RowOk s ↔ OpenRow s ∧ s.a0 ≤ Config.a0Limit ∧ PointerOk s ∧ ParityOk s := by
  simp only [RowOk, OpenRow, hp]
  grind

theorem rowOk_run2_iff {s : State} (hp : s.pos = .run2) :
    RowOk s ↔ OpenRow s ∧ s.a0 ≤ Config.a0Limit ∧ PointerOk s ∧ s.cur.length % 2 = s.color.other.toNat := by
  simp only [RowOk, OpenRow, hp]
  grind

theorem rowOk_unc_iff {s : State} (hp : s.pos = .unc) :
    RowOk s ↔ OpenRow s ∧ s.a0 ≤ s.width.toNat ∧ ParityOk s := by
  simp only [RowOk, OpenRow, hp]
  grind

theorem rowOk_trailing_iff {s : State} (hp : s.pos = .trailing) :
    RowOk s ↔ OpenRow s ∧ s.a0 = s.width.toNat ∧ 0 < s.rle ∧ ParityOk s := by
  simp only [RowOk, OpenRow, hp]
  grind

/-! ## Sums, runs and parities -/

theorem sum_take_succ (l : List Nat) (j : Nat) : (l.take (j + 1)).sum = (l.take j).sum + l.getD j 0 := by
  rw [take_sum_split, List.getD_eq_getElem?_getD, ← List.head?_drop]
  cases l.drop j <;> simp

theorem refPrefix_succ (s : State) (j : Nat) : refPrefix s (j + 1) = refPrefix s j + s.refAt j := by
  rw [refPrefix, sum_take_succ, Int.natCast_add, State.refAt]

/-- A transition left of W is not the end of the reference line. -/
theorem lt_length_of_refPrefix_lt {s : State} (hsum : s.ref.sum = s.width.toNat) {j : Nat}
    (h : refPrefix s j < s.width.toNat) : j < s.ref.length := by
  refine Nat.lt_of_not_le fun hle => ?_
  rw [refPrefix, List.take_of_length_le hle, hsum] at h
  exact absurd h (Int.lt_irrefl _)

theorem refPrefix_le_width {s : State} (hsum : s.ref.sum = s.width.toNat) (j : Nat) :
    refPrefix s j ≤ s.width.toNat := by
  have hsplit := sum_take_add_sum_drop s.ref j
  rw [refPrefix]
  omega

/-- A run that ends left of 2^18 joins a row that has room (spec 10_state.md R26, 40_mmr_modes.md R164). -/
theorem runsFit_emit {w : Nat} {l : List Nat} {v a : Int} (hfit : RunsFit w l) (hroom : l.length < w + 2) (hv : 0 ≤ v)
    (hsum : (l.sum : Int) + v = a) (ha : a < 262144) :
    RunsFit w (l ++ [v.toNat]) ∧ ((l ++ [v.toNat]).sum : Int) = a := by
  obtain ⟨-, hbound⟩ := hfit
  refine ⟨⟨?_, ?_⟩, ?_⟩
  · rw [List.length_append, List.length_singleton, Config.runCap]
    omega
  · simp only [List.mem_append, List.mem_singleton]
    rintro r (hr | rfl)
    · exact hbound r hr
    · omega
  · rw [List.sum_append, List.sum_singleton]
    omega

theorem parity_append {l : List Nat} {c : Colour} (h : l.length % 2 = c.toNat) (n : Nat) :
    (l ++ [n]).length % 2 = c.other.toNat := by
  rw [List.length_append, List.length_singleton]
  cases c <;> simp only [Colour.toNat, Colour.other] at * <;> omega

theorem pointer_parity_flip {p q : Nat} {c : Colour} (h : p % 2 = (c.toNat + 1) % 2) (hq : (p + q) % 2 = 1) :
    q % 2 = (c.other.toNat + 1) % 2 := by
  cases c <;> simp only [Colour.toNat, Colour.other] at * <;> omega

/-- s with its pending run emitted. -/
abbrev State.emitted (s : State) : State := { s with cur := s.cur ++ [s.rle.toNat], rle := 0 }

/-- The pending run is emitted (spec 40_mmr_modes.md R164). -/
theorem openRow_emitPending {s t : State} (ho : OpenRow s) (ha : s.a0 < 262144) (h : emitPending s = .ok t) :
    OpenRow s.emitted ∧ t = s.emitted := by
  obtain ⟨hact, hline, hfit, -, hsum⟩ := ho
  obtain ⟨hv, hroom, rfl⟩ := emitPending_eq_ok h
  obtain ⟨hfit', hsum'⟩ := runsFit_emit hfit hroom hv hsum ha
  exact ⟨⟨hact, hline, hfit', Int.le_refl 0, (Int.add_zero _).trans hsum'⟩, rfl⟩

/-! ## The clamp -/

/-- The clamp of a row that passes W keeps the runs left of the one that passes W and cuts that one short, or drops it where nothing of
it is left (spec 40_mmr_modes.md R168). -/
theorem clampRow_cur {s : State} (ha : s.a0 = s.cur.sum) (hw : (s.width.toNat : Int) < s.a0) :
    ∃ m < s.cur.length, (s.cur.take m).sum ≤ s.width.toNat ∧ s.width.toNat < (s.cur.take (m + 1)).sum ∧
      (clampRow s).cur = s.cur.take m ++
        (if (s.cur.take m).sum < s.width.toNat then [s.width.toNat - (s.cur.take m).sum] else []) := by
  have hrev (j : Nat) : (s.cur.reverse.drop j).sum = (s.cur.take (s.cur.length - j)).sum := by
    rw [List.drop_reverse, List.sum_reverse]
  have ha' : s.a0 = s.cur.reverse.sum := by rw [List.sum_reverse, ha]
  obtain ⟨k, hk, hdrop, hle, hlt⟩ := dropRuns_spec s.width.toNat s.cur.reverse s.a0 ha' (Int.le_of_lt hw)
  rw [List.length_reverse] at hk
  have hpos : 0 < k := by
    refine Nat.pos_of_ne_zero fun h0 => ?_
    rw [h0, List.drop_zero, List.sum_reverse] at hle
    omega
  rw [hrev] at hle
  have hlast := hlt (k - 1) (by omega)
  rw [hrev, show s.cur.length - (k - 1) = s.cur.length - k + 1 by omega] at hlast
  refine ⟨s.cur.length - k, by omega, hle, hlast, ?_⟩
  have hkept : (s.cur.reverse.drop k).reverse = s.cur.take (s.cur.length - k) := by
    rw [List.drop_reverse, List.reverse_reverse]
  unfold clampRow
  simp only [hdrop, hkept, hrev, Int.toNat_sub]
  split
  next hlt => rw [if_pos (by omega)]
  next hge => rw [if_neg (by omega), List.append_nil]

/-- The clamped row is a sound row of W pixels. -/
theorem clampRow_sum_fits {s : State} (hfit : RunsFit s.width.toNat s.cur) (ha : s.a0 = s.cur.sum)
    (hw : (s.width.toNat : Int) < s.a0) :
    (clampRow s).cur.sum = s.width.toNat ∧ RunsFit s.width.toNat (clampRow s).cur := by
  obtain ⟨m, hm, hle, -, hcur⟩ := clampRow_cur ha hw
  obtain ⟨hlen, hbound⟩ := hfit
  have hwidth := width_lt s
  have hbound' : ∀ r ∈ s.cur.take m, r < 262144 := fun r hr => hbound r (List.mem_of_mem_take hr)
  rw [hcur]
  split
  next hlt =>
    refine ⟨by rw [List.sum_append, List.sum_singleton]; omega, ?_, ?_⟩
    · rw [List.length_append, List.length_take, List.length_singleton]
      omega
    · simp only [List.mem_append, List.mem_singleton]
      rintro r (hr | rfl)
      · exact hbound' r hr
      · omega
  next hge =>
    rw [List.append_nil]
    refine ⟨by omega, ?_, hbound'⟩
    rw [List.length_take]
    omega

/-! ## The end of a row and of a mode -/

/-- A returned row becomes the reference line, and rows remain unless it was the last (spec 40_mmr_modes.md R169). -/
theorem rowOk_rowReturned {s : State} {row : List Nat} (hline : LineOk s)
    (hsum : row.sum = s.width.toNat) (hfit : RunsFit s.width.toNat row) : RowOk (rowReturned s row) := by
  obtain ⟨hw, hrows, -, -⟩ := hline
  have hnext : (rowReturned s row).mmrState = .active → LineOk (rowReturned s row) := by
    intro ha
    have hne : s.lineno + 1 ≠ s.height := by
      intro hlast
      have hdone : (rowReturned s row).mmrState = .done := if_pos hlast
      rw [hdone] at ha
      cases ha
    refine ⟨hw, ?_, hsum, hfit⟩
    show (s.lineno + 1).toNat < s.height.toNat
    bv_omega
  have hidle : (rowReturned s row).pos = .idle := rfl
  exact ⟨hnext, by simp [hidle]⟩

theorem rowOk_closeRow {s t : State} (h : closeRow s = .ok t) (ho : OpenRow s) (hr : s.rle = 0)
    (hw : (s.width.toNat : Int) ≤ s.a0) : RowOk t := by
  obtain ⟨-, hline, hfit, -, hsum⟩ := ho
  have ha : s.a0 = s.cur.sum := by omega
  by_cases hover : (s.width.toNat : Int) < s.a0
  · cases hc : s.ovrClamp
    case false =>
      rw [closeRow_overshoot hover hc] at h
      cases h
    case true =>
      rw [closeRow_clamp hover hc, rowReturned_of_rowLocal (rowLocal_clampRow s)] at h
      cases h
      obtain ⟨hsum', hfit'⟩ := clampRow_sum_fits hfit ha hover
      exact rowOk_rowReturned hline hsum' hfit'
  · rw [closeRow_at_width (Int.not_lt.mp hover)] at h
    cases h
    exact rowOk_rowReturned hline (by omega) hfit

/-- After `Resync()` left of W the reference pointer is sound again: B1 is not left of A0, and PR is not 0
(spec 40_mmr_modes.md R165, R170). -/
theorem resync_pointerOk {s : State} (ho : OpenRow s) (hp : PointerAt s) (hw : s.a0 < s.width.toNat) :
    s.a0 ≤ (resync s).b1 ∧ PointerOk (resync s) := by
  obtain ⟨-, ⟨-, -, hsum, -⟩, -, hrle, hcur⟩ := ho
  obtain ⟨hb, hpar, hle⟩ := hp
  obtain ⟨n, hpr, hb1, hstop, hn, -⟩ := resync_spec hb hsum
  have hpos : 1 ≤ (resync s).pr := by
    refine Nat.pos_of_ne_zero fun h0 => ?_
    rw [hpr] at h0
    rw [h0] at hb1
    have hzero : refPrefix s 0 = 0 := rfl
    omega
  refine ⟨by omega, ?_, hpos, ?_, ?_⟩
  · rw [hb1, hpr]
    rfl
  · rw [hpr]
    exact (by omega : (s.pr + 2 * n) % 2 = s.pr % 2).trans hpar
  · rw [hpr]
    exact (by omega : s.pr + 2 * n ≤ s.ref.length + 1)

/-- A mode that has ended in a sound row, with a sound pointer if the row goes on and nothing pending past W, leaves the invariants
(spec 40_mmr_modes.md R152, R165-R170). -/
theorem rowOk_afterMode {s t : State} (h : afterMode s = .ok t) (ho : OpenRow s)
    (hgoes : s.a0 < s.width.toNat → PointerAt s ∧ ParityOk s)
    (hpending : 0 < s.rle → s.a0 ≤ s.width.toNat ∧ ParityOk s) : RowOk t := by
  by_cases hw : s.a0 < s.width.toNat
  · rw [afterMode_within hw] at h
    cases h
    obtain ⟨hp, hpar⟩ := hgoes hw
    obtain ⟨hb, hptr⟩ := resync_pointerOk ho hp hw
    exact (rowOk_mode_iff rfl).mpr ⟨ho, hw, hb, hptr, hpar⟩
  · by_cases hr : 0 < s.rle
    · rw [afterMode_trailing (Int.not_lt.mp hw) hr] at h
      cases h
      obtain ⟨hle, hpar⟩ := hpending hr
      exact (rowOk_trailing_iff rfl).mpr ⟨ho, Int.le_antisymm hle (Int.not_lt.mp hw), hr, hpar⟩
    · rw [afterMode_ends (Int.not_lt.mp hw) (Int.not_lt.mp hr)] at h
      exact rowOk_closeRow h ho (Int.le_antisymm (Int.not_lt.mp hr) (OpenRow.rle_nonneg ho)) (Int.not_lt.mp hw)

end Sys2Proof.Machine

/-! # Every step keeps the row invariants -/

namespace Sys2Proof.Machine

/-! ## Codewords -/

/-- An operation of the row program keeps the row invariants from a position on, where it answers a state. -/
def KeepsRowOk (p : Position) (f : State → Try State) : Prop :=
  ∀ s t, s.pos = p → RowOk s → f s = .ok t → RowOk t

/-- An error ends the row: what is left to show is that an answer is sound. -/
theorem rowOk_of_finishMmr {x : Try State} {t : State} (h : finishMmr x = .next t) (hok : ∀ u, x = .ok u → RowOk u) :
    RowOk t := by
  obtain hx | ⟨r, -, rfl⟩ := finishMmr_eq_next h
  · exact hok t hx
  · exact rowOk_of_idle (s := mmrErrorEntry r.err r.bit r.state) (by rw [(mmrErrorEntry_spec _ _ _).1]; decide) rfl

/-- A codeword is consumed first: CWSTART and BITPOS have no part in the row invariants. -/
theorem KeepsRowOk.takeCodeword {p : Position} {f : State → Try State} (hf : KeepsRowOk p f) (n : Nat) :
    KeepsRowOk p (fun s => takeCodeword n s >>= f) := by
  intro s t hp hs h
  obtain ⟨u, hu, ht⟩ := try_bind_eq_ok.mp h
  obtain ⟨-, rfl⟩ := takeCodeword_eq_ok hu
  exact hf (s.taken n) t hp hs ht

theorem keepsRowOk_rejectTrailing : KeepsRowOk .trailing rejectTrailing := by
  intro s t _ _ h
  cases h

theorem keepsRowOk_closeTrailing : KeepsRowOk .trailing closeTrailing := by
  intro s t hp hs h
  obtain ⟨ho, ha, -, -⟩ := (rowOk_trailing_iff hp).mp hs
  obtain ⟨u, hu, ht⟩ := try_bind_eq_ok.mp h
  have hwidth := width_lt s
  obtain ⟨ho', rfl⟩ := openRow_emitPending ho (by omega) hu
  exact rowOk_closeRow ht ho' rfl (Int.le_of_eq ha.symm)

/-- Pass: b2 is a transition of the reference line, so it is at or left of W, and left of W the line goes on past it. -/
theorem keepsRowOk_pass : KeepsRowOk .mode (fun s => afterMode (pass s)) := by
  intro s t hp hs h
  obtain ⟨⟨hact, hline, hfit, hrle, hsum⟩, hw, hab, ⟨hb, -, hpar, -⟩, hpcur⟩ := (rowOk_mode_iff hp).mp hs
  have hb2 : s.b1 + s.refAt s.pr = refPrefix s (s.pr + 1) := by rw [refPrefix_succ, hb]
  have hb1 : s.b1 + s.refAt s.pr + s.refAt (s.pr + 1) = refPrefix s (s.pr + 2) := by rw [refPrefix_succ s (s.pr + 1), hb2]
  have hle : s.b1 + s.refAt s.pr ≤ s.width.toNat := hb2 ▸ refPrefix_le_width (LineOk.ref_sum hline) _
  have hnonneg : 0 ≤ s.refAt s.pr := Int.natCast_nonneg _
  refine rowOk_afterMode h ⟨hact, hline, hfit, ?_, ?_⟩ (fun hlt => ⟨⟨hb1, ?_, ?_⟩, hpcur⟩) fun _ => ⟨hle, hpcur⟩
  · show 0 ≤ s.rle + (s.b1 + s.refAt s.pr - s.a0)
    omega
  · show (s.cur.sum : Int) + (s.rle + (s.b1 + s.refAt s.pr - s.a0)) = s.b1 + s.refAt s.pr
    omega
  · exact (Nat.add_mod_right s.pr 2).trans hpar
  · have hlt' : s.b1 + s.refAt s.pr < s.width.toNat := hlt
    have hlen := lt_length_of_refPrefix_lt (LineOk.ref_sum hline) (hb2 ▸ hlt')
    show s.pr + 2 ≤ s.ref.length + 1
    omega

/-- The reference pointer after `Vertical(k)` left of W (spec 40_mmr_modes.md R163). -/
theorem pointerAt_afterVertical {k : Int} {s : State} (hsum : s.ref.sum = s.width.toNat) (hp : PointerOk s)
    (hw : s.b1 + k < s.width.toNat) : PointerAt (afterVertical k s) := by
  obtain ⟨hb, hpos, hpar, hle⟩ := hp
  have hb : s.b1 = refPrefix s s.pr := hb
  by_cases hk : 0 ≤ k
  · have hlen : s.pr < s.ref.length := lt_length_of_refPrefix_lt hsum (by omega)
    have hpr : (afterVertical k s).pr = s.pr + 1 := if_pos hk
    have hb1 : (afterVertical k s).b1 = s.b1 + s.refAt s.pr := if_pos hk
    rw [PointerAt, hpr, hb1]
    exact ⟨by rw [hb, ← refPrefix_succ]; rfl, pointer_parity_flip hpar (by omega), Nat.succ_le_succ (Nat.le_of_lt hlen)⟩
  · have hpr : (afterVertical k s).pr = s.pr - 1 := if_neg hk
    have hb1 : (afterVertical k s).b1 = s.b1 - s.refAt (s.pr - 1) := if_neg hk
    have hstep := refPrefix_succ s (s.pr - 1)
    rw [Nat.sub_add_cancel hpos, ← hb] at hstep
    rw [PointerAt, hpr, hb1]
    exact ⟨by rw [hstep, Int.add_sub_cancel]; rfl, pointer_parity_flip hpar (by omega), Nat.le_trans (Nat.sub_le _ _) hle⟩

theorem keepsRowOk_verticalMode {k : Int} (hk : k ≤ 3) : KeepsRowOk .mode (verticalMode k) := by
  intro s t hp hs h
  obtain ⟨⟨hact, hline, hfit, -, hsum⟩, -, -, hptr, hpcur⟩ := (rowOk_mode_iff hp).mp hs
  obtain ⟨u, hu, ht⟩ := try_bind_eq_ok.mp h
  obtain ⟨hv, hroom, rfl⟩ := vertical_eq_ok hu
  have hwidth := width_lt s
  have hle : s.b1 ≤ s.width.toNat := hptr.1 ▸ refPrefix_le_width (LineOk.ref_sum hline) _
  have hrun : (s.cur.sum : Int) + verticalRun s k = s.b1 + k := by
    rw [verticalRun]
    omega
  obtain ⟨hfit', hsum'⟩ := runsFit_emit hfit hroom hv hrun (by omega)
  refine rowOk_afterMode ht ⟨hact, hline, hfit', Int.le_refl 0, (Int.add_zero _).trans hsum'⟩ (fun hlt => ⟨?_, ?_⟩)
    fun hr => absurd hr (Int.lt_irrefl 0)
  · exact pointerAt_afterVertical (LineOk.ref_sum hline) hptr hlt
  · exact parity_append hpcur _

theorem keepsRowOk_h : KeepsRowOk .mode (fun s => .ok { s with pos := .run1 }) := by
  intro s t hp hs h
  obtain ⟨ho, hw, -, hptr, hpcur⟩ := (rowOk_mode_iff hp).mp hs
  cases h
  have hwidth := width_lt s
  have hlimit : s.a0 ≤ Config.a0Limit := by rw [Config.a0Limit]; omega
  exact (rowOk_run1_iff rfl).mpr ⟨ho, hlimit, hptr, hpcur⟩

theorem keepsRowOk_unc : KeepsRowOk .mode (fun s => .ok { s with pos := .unc }) := by
  intro s t hp hs h
  obtain ⟨ho, hw, -, -, hpcur⟩ := (rowOk_mode_iff hp).mp hs
  cases h
  exact (rowOk_unc_iff rfl).mpr ⟨ho, Int.le_of_lt hw, hpcur⟩

/-- EOFB ends the image. -/
theorem keepsRowOk_eofb :
    KeepsRowOk .mode (fun s => .ok (endScanNoLine { s.mark with lineno := s.height, mmrState := .done })) := by
  intro s t _ _ h
  cases h
  exact rowOk_of_idle (fun ha => nomatch (show MmrState.done = .active from ha)) rfl

/-! ### Runs -/

/-- s with a run value joined to the position and the pending run. -/
abbrev State.joined (v : Nat) (s : State) : State := { s with a0 := s.a0 + v, rle := s.rle + v }

/-- If a run's value is accepted, the position stays within A0_LIMIT, and a terminating value has ended the run
(spec 40_mmr_modes.md R155, R171). -/
theorem addRun_eq_ok {v : Nat} {s t : State} (h : addRun v s = .ok t) :
    s.a0 + v ≤ Config.a0Limit ∧ (t = s.joined v ∨ endRun (s.joined v) = .ok t) := by
  by_cases hlimit : 131072 < s.a0 + v
  · rw [addRun_limit hlimit] at h
    cases h
  have ha : s.a0 + v ≤ 131072 := Int.not_lt.mp hlimit
  by_cases hv : v < 64
  · rw [addRun_terminating ha hv] at h
    exact ⟨ha, .inr h⟩
  · rw [addRun_makeup ha (Nat.not_lt.mp hv)] at h
    cases h
    exact ⟨ha, .inl rfl⟩

theorem openRow_joined {s : State} (ho : OpenRow s) (v : Nat) : OpenRow (s.joined v) := by
  obtain ⟨hact, hline, hfit, hrle, hsum⟩ := ho
  refine ⟨hact, hline, hfit, Int.add_nonneg hrle (Int.natCast_nonneg v), ?_⟩
  rw [← Int.add_assoc, hsum]

/-- The end of the first run (spec 40_mmr_modes.md R154). -/
theorem endRun_eq_ok_first {s t : State} (hp : s.pos = .run1) (h : endRun s = .ok t) :
    ∃ u, emitPending s = .ok u ∧ t = { u with pos := .run2 } := by
  unfold endRun at h
  rw [hp] at h
  obtain ⟨u, hu, ht⟩ := try_bind_eq_ok.mp h
  exact ⟨u, hu, by cases ht; rfl⟩

/-- The end of the second run (spec 40_mmr_modes.md R154). -/
theorem endRun_eq_ok_second {s t : State} (hp : s.pos = .run2) (h : endRun s = .ok t) :
    ∃ u, emitPending s = .ok u ∧ afterMode u = .ok t := by
  unfold endRun at h
  rw [hp] at h
  exact try_bind_eq_ok.mp h

theorem lt_of_le_a0Limit {a : Int} (h : a ≤ Config.a0Limit) : a < 262144 := by
  rw [Config.a0Limit] at h
  omega

theorem keepsRowOk_addRun_run1 (v : Nat) : KeepsRowOk .run1 (addRun v) := by
  intro s t hp hs h
  obtain ⟨ho, -, hptr, hpcur⟩ := (rowOk_run1_iff hp).mp hs
  have ho' := openRow_joined ho v
  obtain ⟨hlimit, rfl | hend⟩ := addRun_eq_ok h
  · exact (rowOk_run1_iff (s := s.joined v) hp).mpr ⟨ho', hlimit, hptr, hpcur⟩
  · obtain ⟨u, hu, rfl⟩ := endRun_eq_ok_first (s := s.joined v) hp hend
    obtain ⟨ho'', rfl⟩ := openRow_emitPending ho' (lt_of_le_a0Limit hlimit) hu
    exact (rowOk_run2_iff rfl).mpr ⟨ho'', hlimit, hptr, parity_append hpcur _⟩

theorem keepsRowOk_addRun_run2 (v : Nat) : KeepsRowOk .run2 (addRun v) := by
  intro s t hp hs h
  obtain ⟨ho, -, hptr, hpcur⟩ := (rowOk_run2_iff hp).mp hs
  have ho' := openRow_joined ho v
  obtain ⟨hlimit, rfl | hend⟩ := addRun_eq_ok h
  · exact (rowOk_run2_iff (s := s.joined v) hp).mpr ⟨ho', hlimit, hptr, hpcur⟩
  · obtain ⟨u, hu, ht⟩ := endRun_eq_ok_second (s := s.joined v) hp hend
    obtain ⟨ho'', rfl⟩ := openRow_emitPending ho' (lt_of_le_a0Limit hlimit) hu
    have hpcur' : ParityOk (s.joined v).emitted := (parity_append hpcur _).trans (congrArg _ (other_other s.color))
    exact rowOk_afterMode ht ho'' (fun _ => ⟨PointerOk.pointerAt hptr, hpcur'⟩) fun hr => absurd hr (Int.lt_irrefl 0)

/-! ### Uncompressed pixels -/

theorem eq_other_of_ne : ∀ {c d : Colour}, c ≠ d → c = d.other
  | .white, .white, h => absurd rfl h
  | .white, .black, _ => rfl
  | .black, .white, _ => rfl
  | .black, .black, h => absurd rfl h

/-- Inside uncompressed mode the row is sound, at most n pixels past W (spec 41_mmr_escapes.md R195, R196). -/
def UncRow (n : Nat) (s : State) : Prop := s.pos = .unc ∧ OpenRow s ∧ s.a0 ≤ s.width.toNat + n ∧ ParityOk s

theorem uncRow_zero_iff {s : State} (hp : s.pos = .unc) : UncRow 0 s ↔ RowOk s := by
  rw [rowOk_unc_iff hp, UncRow, Int.natCast_zero, Int.add_zero]
  exact and_iff_right hp

/-- One more pixel joins the pending run. -/
theorem UncRow.pixel {n : Nat} {s : State} (h : UncRow n s) : UncRow (n + 1) (s.joined 1) := by
  obtain ⟨hp, ho, ha, hpar⟩ := h
  refine ⟨hp, openRow_joined ho 1, ?_, hpar⟩
  show s.a0 + 1 ≤ s.width.toNat + ((n + 1 : Nat) : Int)
  omega

/-- If a pixel is taken, the pending run has been emitted where the colour changes (spec 41_mmr_escapes.md R196). -/
theorem uPix_eq_ok {p : Colour} {s t : State} (h : uPix p s = .ok t) :
    p = s.color ∧ t = s.joined 1 ∨
      p = s.color.other ∧ ∃ u, emitPending s = .ok u ∧ t = (u.setColor p).joined 1 := by
  by_cases hp : p = s.color
  · rw [uPix_same hp] at h
    cases h
    exact .inl ⟨hp, rfl⟩
  · unfold uPix at h
    rw [if_pos hp] at h
    obtain ⟨u, hu, ht⟩ := try_bind_eq_ok.mp h
    obtain ⟨v, hv, hu⟩ := try_bind_eq_ok.mp hu
    cases hu
    exact .inr ⟨eq_other_of_ne hp, v, hv, by cases ht; rfl⟩

/-- A pixel leaves the row sound: the run that a colour change emits is the row's next (spec 41_mmr_escapes.md R196). -/
theorem uPix_uncRow {n : Nat} (hn : n ≤ 5) {p : Colour} {s t : State} (hs : UncRow n s) (h : uPix p s = .ok t) :
    UncRow (n + 1) t := by
  obtain ⟨-, rfl⟩ | ⟨rfl, u, hu, rfl⟩ := uPix_eq_ok h
  · exact hs.pixel
  · obtain ⟨hpos, ho, ha, hpar⟩ := hs
    have hwidth := width_lt s
    obtain ⟨ho', rfl⟩ := openRow_emitPending ho (by omega) hu
    exact UncRow.pixel ⟨hpos, ho', ha, parity_append hpar _⟩

theorem uCheck_uncRow {n : Nat} {s t : State} (hs : UncRow n s) (h : uCheck s = .ok t) : UncRow 0 t := by
  obtain ⟨hp, ho, -, hpar⟩ := hs
  by_cases hw : (s.width.toNat : Int) < s.a0
  · rw [uCheck_raises hw] at h
    cases h
  · rw [uCheck_ok (Int.not_lt.mp hw)] at h
    cases h
    exact ⟨hp, ho, by omega, hpar⟩

/-- A bit of a literal code: it is consumed, its pixel is taken, and the row is not past W. -/
theorem uBit_uncRow {p : Colour} {s t : State} (hs : UncRow 0 s) (h : uBit p s = .ok t) : UncRow 0 t := by
  obtain ⟨u, hu, h⟩ := try_bind_eq_ok.mp h
  obtain ⟨-, rfl⟩ := takeCodeword_eq_ok hu
  obtain ⟨v, hv, h⟩ := try_bind_eq_ok.mp h
  exact uCheck_uncRow (uPix_uncRow (Nat.zero_le 5) (s := s.taken 1) hs hv) h

theorem uLiteral_uncRow {k : Nat} : ∀ {s t : State}, UncRow 0 s → uLiteral k s = .ok t → UncRow 0 t := by
  induction k with
  | zero => exact uBit_uncRow
  | succ k ih =>
    intro s t hs h
    obtain ⟨u, hu, h⟩ := try_bind_eq_ok.mp h
    exact ih (uBit_uncRow hs hu) h

theorem uWhites_uncRow {k : Nat} : ∀ {n : Nat} {s t : State}, n + k ≤ 5 → UncRow n s → uWhites k s = .ok t →
    UncRow (n + k) t := by
  induction k with
  | zero =>
    intro n s t _ hs h
    cases h
    exact hs
  | succ k ih =>
    intro n s t hn hs h
    obtain ⟨u, hu, h⟩ := try_bind_eq_ok.mp h
    have hrest := ih (n := n + 1) (by omega) (uPix_uncRow (by omega) hs hu) h
    rwa [Nat.add_right_comm, Nat.add_assoc] at hrest

theorem UncRow.rowOk {s : State} (h : UncRow 0 s) : RowOk s := (uncRow_zero_iff h.1).mp h

theorem keepsRowOk_uLiteral (k : Nat) : KeepsRowOk .unc (uLiteral k) := fun _ _ hp hs h =>
  (uLiteral_uncRow ((uncRow_zero_iff hp).mpr hs) h).rowOk

theorem keepsRowOk_fiveWhites : KeepsRowOk .unc (fun s => uWhites 5 s >>= uCheck) := by
  intro s t hp hs h
  obtain ⟨u, hu, h⟩ := try_bind_eq_ok.mp h
  exact (uCheck_uncRow (uWhites_uncRow (by decide) ((uncRow_zero_iff hp).mpr hs) hu) h).rowOk

/-- The reference pointer at the exit of uncompressed mode (spec 41_mmr_escapes.md R200). -/
theorem pointerAt_restartRef {s : State} (h : 1 ≤ s.ref.length) : PointerAt (restartRef s) := by
  have hb1 : s.refAt 0 = refPrefix s 1 := by
    rw [refPrefix_succ s 0]
    exact (Int.zero_add _).symm
  have hb2 : s.refAt 0 + s.refAt 1 = refPrefix s 2 := by rw [hb1, ← refPrefix_succ s 1]
  unfold restartRef
  split
  next hc => exact ⟨hb1, by simp [hc, Colour.toNat], by simp⟩
  next hc => exact ⟨hb2, by simp [hc, Colour.toNat], Nat.succ_le_succ h⟩

/-- If the exit of uncompressed mode answers, it has restarted the reference pointer: at W with the pending run emitted, left of W
with T the colour, after the pending run of the other colour (spec 41_mmr_escapes.md R200). -/
theorem exitFixup_eq_ok {c : Colour} {s t : State} (h : exitFixup c s = .ok t) :
    ∃ u, t = restartRef u ∧
      ((s.width.toNat : Int) ≤ s.a0 ∧ emitPending s = .ok u ∨
        s.a0 < s.width.toNat ∧ (c = s.color.other ∧ (∃ v, emitPending s = .ok v ∧ u = v.setColor c) ∨ u = s)) := by
  unfold exitFixup at h
  dsimp only at h
  split at h
  next hw =>
    obtain ⟨u, hu, ht⟩ := try_bind_eq_ok.mp h
    exact ⟨u, by cases ht; rfl, .inl ⟨hw, hu⟩⟩
  next hw =>
    split at h
    next hc =>
      obtain ⟨u, hu, ht⟩ := try_bind_eq_ok.mp h
      obtain ⟨v, hv, hu⟩ := try_bind_eq_ok.mp hu
      exact ⟨u, by cases ht; rfl, .inr ⟨Int.not_le.mp hw, .inl ⟨eq_other_of_ne hc, v, hv, by cases hu; rfl⟩⟩⟩
    next hc => exact ⟨s, by cases h; rfl, .inr ⟨Int.not_le.mp hw, .inr rfl⟩⟩

/-- Restarting the reference pointer touches nothing else. -/
theorem restartRef_eq (s : State) : restartRef s = { s with b1 := (restartRef s).b1, pr := (restartRef s).pr } := by
  unfold restartRef
  split <;> rfl

/-- A mode ends with the reference pointer restarted, in a sound row. -/
theorem rowOk_afterMode_restartRef {s t : State} (h : afterMode (restartRef s) = .ok t) (ho : OpenRow s)
    (hgoes : s.a0 < s.width.toNat → ParityOk s) (hpending : 0 < s.rle → s.a0 ≤ s.width.toNat ∧ ParityOk s) :
    RowOk t := by
  have hlen : 1 ≤ s.ref.length := by
    obtain ⟨-, ⟨hw, -, hsum, -⟩, -⟩ := ho
    refine List.length_pos_iff.mpr fun hnil => ?_
    rw [hnil, List.sum_nil] at hsum
    omega
  have hptr := pointerAt_restartRef hlen
  rw [restartRef_eq] at h hptr
  exact rowOk_afterMode h ho (fun hw => ⟨hptr, hgoes hw⟩) hpending

theorem keepsRowOk_exit (c : Colour) : KeepsRowOk .unc (fun s => exitFixup c s >>= afterMode) := by
  intro s t hp hs h
  obtain ⟨ho, ha, hpar⟩ := (rowOk_unc_iff hp).mp hs
  have hwidth := width_lt s
  obtain ⟨r, hr, ht⟩ := try_bind_eq_ok.mp h
  obtain ⟨u, rfl, ⟨hw, hu⟩ | ⟨hw, ⟨rfl, v, hv, rfl⟩ | rfl⟩⟩ := exitFixup_eq_ok hr
  · obtain ⟨ho', rfl⟩ := openRow_emitPending ho (by omega) hu
    exact rowOk_afterMode_restartRef ht ho' (fun hlt => absurd hlt (Int.not_lt.mpr hw)) fun hr => absurd hr (Int.lt_irrefl 0)
  · obtain ⟨ho', rfl⟩ := openRow_emitPending ho (by omega) hv
    exact rowOk_afterMode_restartRef ht ho' (fun _ => parity_append hpar _) fun hr => absurd hr (Int.lt_irrefl 0)
  · exact rowOk_afterMode_restartRef ht ho (fun _ => hpar) fun _ => ⟨ha, hpar⟩

/-! ### Every codeword -/

theorem rowOk_modeCodeword {len : Nat} {body close : State → Try State} {s t : State} (hs : RowOk s)
    (hbody : KeepsRowOk .mode body) (hclose : KeepsRowOk .trailing close) (h : modeCodeword len body close s = .next t) :
    RowOk t := by
  unfold modeCodeword at h
  split at h
  next hp => exact rowOk_of_finishMmr h fun u => hbody.takeCodeword len s u hp hs
  next hp => exact rowOk_of_finishMmr h fun u => hclose.takeCodeword len s u hp hs
  next => cases h

theorem rowOk_codewordAt {p : Position} {body : State → Try State} {s t : State} (hs : RowOk s)
    (hbody : KeepsRowOk p body) (h : codewordAt p body s = .next t) : RowOk t := by
  unfold codewordAt at h
  split at h
  next hp => exact rowOk_of_finishMmr h fun u => hbody s u hp hs
  next => cases h

/-- A run codeword is read in one of the two runs of Horizontal mode. -/
theorem rowOk_runCodeword {c : Colour} {v len : Nat} {s t : State} (hs : RowOk s) (h : runCodeword c v len s = .next t) :
    RowOk t := by
  unfold runCodeword at h
  split at h
  next hc =>
    refine rowOk_of_finishMmr h fun u hu => ?_
    cases hp : s.pos
    case run1 => exact (keepsRowOk_addRun_run1 v).takeCodeword len s u hp hs hu
    case run2 => exact (keepsRowOk_addRun_run2 v).takeCodeword len s u hp hs hu
    all_goals simp [State.runColour, hp] at hc
  next => cases h

theorem rowOk_vertical {k : Int} (hk : k ≤ 3) {len : Nat} {s t : State} (hs : RowOk s)
    (h : modeCodeword len (verticalMode k) rejectTrailing s = .next t) : RowOk t :=
  rowOk_modeCodeword hs (keepsRowOk_verticalMode hk) keepsRowOk_rejectTrailing h

/-- Every codeword keeps the row invariants. -/
theorem exec_codeword_rowOk {i : Instr} {book : Book} {code len : Nat} (hi : encode i = .codeword book code len)
    {s t : State} (hs : RowOk s) (h : exec i s = .next t) : RowOk t := by
  cases i
  case mmrInit | mmrScanruns | mmrScanrle | jb2Direct | jb2Cross | ctxInit | writeCtrl | readReg | reserved => nomatch hi
  case p => exact rowOk_modeCodeword hs keepsRowOk_pass keepsRowOk_rejectTrailing h
  case h => exact rowOk_modeCodeword hs keepsRowOk_h keepsRowOk_rejectTrailing h
  case v0 => exact rowOk_modeCodeword hs (keepsRowOk_verticalMode (by decide)) keepsRowOk_closeTrailing h
  case vr1 => exact rowOk_vertical (k := 1) (by decide) hs h
  case vr2 => exact rowOk_vertical (k := 2) (by decide) hs h
  case vr3 => exact rowOk_vertical (k := 3) (by decide) hs h
  case vl1 => exact rowOk_vertical (k := -1) (by decide) hs h
  case vl2 => exact rowOk_vertical (k := -2) (by decide) hs h
  case vl3 => exact rowOk_vertical (k := -3) (by decide) hs h
  case eofb => exact rowOk_codewordAt hs keepsRowOk_eofb h
  case unc => exact rowOk_codewordAt hs (keepsRowOk_unc.takeCodeword 10) h
  case u1 => exact rowOk_codewordAt hs (keepsRowOk_uLiteral 0) h
  case u01 => exact rowOk_codewordAt hs (keepsRowOk_uLiteral 1) h
  case u001 => exact rowOk_codewordAt hs (keepsRowOk_uLiteral 2) h
  case u0001 => exact rowOk_codewordAt hs (keepsRowOk_uLiteral 3) h
  case u00001 => exact rowOk_codewordAt hs (keepsRowOk_uLiteral 4) h
  case u00000 => exact rowOk_codewordAt hs (keepsRowOk_fiveWhites.takeCodeword 6) h
  case ux c => exact rowOk_codewordAt hs ((keepsRowOk_exit c).takeCodeword 8) h
  all_goals exact rowOk_runCodeword hs h

/-! ## Commands -/

/-! ### What the byte source leaves alone -/

/-- t differs from s at most in what entering a stripe writes (spec 20_memory.md R61, R68, R69). -/
def StripeLocal (s t : State) : Prop :=
  t = { s with sp := t.sp, send := t.send, sdata := t.sdata, bitpos := t.bitpos, stripeno := t.stripeno }

theorem StripeLocal.trans {s t u : State} (hst : StripeLocal s t) (htu : StripeLocal t u) : StripeLocal s u := by
  unfold StripeLocal at *
  rw [htu, hst]

theorem StripeLocal.width {s t : State} (h : StripeLocal s t) : t.width = s.width := (congrArg State.width h :)

theorem StripeLocal.lineno {s t : State} (h : StripeLocal s t) : t.lineno = s.lineno := (congrArg State.lineno h :)

theorem readByte_stripeLocal {s t : State} {b : Byte} (h : readByte s = .ok (b, t)) : StripeLocal s t := by
  unfold readByte at h
  split at h
  · cases h
  · cases h
    rfl

theorem read16_stripeLocal {s t : State} {v : BitVec 16} (h : read16 s = .ok (v, t)) : StripeLocal s t := by
  obtain ⟨⟨b0, s1⟩, h1, h⟩ := try_bind_eq_ok.mp h
  obtain ⟨⟨b1, s2⟩, h2, h⟩ := try_bind_eq_ok.mp h
  cases h
  exact (readByte_stripeLocal h1).trans (readByte_stripeLocal h2)

theorem read32_stripeLocal {s t : State} {v : BitVec 32} (h : read32 s = .ok (v, t)) : StripeLocal s t := by
  obtain ⟨⟨b0, s1⟩, h1, h⟩ := try_bind_eq_ok.mp h
  obtain ⟨⟨b1, s2⟩, h2, h⟩ := try_bind_eq_ok.mp h
  obtain ⟨⟨b2, s3⟩, h3, h⟩ := try_bind_eq_ok.mp h
  obtain ⟨⟨b3, s4⟩, h4, h⟩ := try_bind_eq_ok.mp h
  cases h
  exact (readByte_stripeLocal h1).trans ((readByte_stripeLocal h2).trans
    ((readByte_stripeLocal h3).trans (readByte_stripeLocal h4)))

theorem readStripe_stripeLocal {s t : State} (h : readStripe s = .ok t) : StripeLocal s t := by
  obtain ⟨⟨len, u⟩, hu, h⟩ := try_bind_eq_ok.mp h
  cases h
  exact (read32_stripeLocal hu).trans rfl

theorem nextStripe_stripeLocal {s t : State} (h : nextStripe s = .ok t) : StripeLocal s t := by
  unfold nextStripe at h
  split at h
  · cases h
  · obtain ⟨u, hu, h⟩ := try_bind_eq_ok.mp h
    cases h
    exact .trans (t := { s with sp := s.send.setWidth 32 }) rfl ((readStripe_stripeLocal hu).trans rfl)

/-- A header that is accepted has W and H not 0, and no row has been decoded (spec 42_mmr_commands.md R211). -/
theorem parseHeader_eq_ok {s t : State} (h : parseHeader s = .ok t) :
    t.width ≠ 0 ∧ t.height ≠ 0 ∧ t.lineno = s.lineno := by
  obtain ⟨⟨magic, s1⟩, h1, h⟩ := try_bind_eq_ok.mp h
  dsimp only at h
  split at h
  next => cases h
  obtain ⟨⟨w, s2⟩, h2, h⟩ := try_bind_eq_ok.mp h
  obtain ⟨⟨r, s3⟩, h3, h⟩ := try_bind_eq_ok.mp h
  have hw : s3.width = w := (read16_stripeLocal h3).width
  have hl1 : s1.lineno = s.lineno := (read32_stripeLocal h1).lineno
  have hl2 : s2.lineno = s1.lineno := (read16_stripeLocal h2).lineno
  have hl3 : s3.lineno = s2.lineno := (read16_stripeLocal h3).lineno
  have hl : s3.lineno = s.lineno := hl3.trans (hl2.trans hl1)
  dsimp only at h
  split at h
  next => cases h
  next hne =>
    obtain ⟨hw0, hr0⟩ := not_or.mp hne
    have hgoal : s3.width ≠ 0 ∧ r ≠ 0 ∧ s3.lineno = s.lineno := ⟨hw ▸ hw0, hr0, hl⟩
    split at h
    next =>
      obtain ⟨⟨q, s4⟩, h4, h⟩ := try_bind_eq_ok.mp h
      have h4 := read16_stripeLocal h4
      dsimp only at h
      split at h
      next => cases h
      next =>
        cases h
        rw [h4]
        exact hgoal
    next =>
      cases h
      exact hgoal

/-! ### The MMR commands -/

/-- The all-white reference line is sound (spec 42_mmr_commands.md R214). -/
theorem lineOk_white {s : State} (hw : 0 < s.width.toNat) (hrows : s.lineno.toNat < s.height.toNat)
    (href : s.ref = [s.width.toNat]) : LineOk s := by
  have hwidth := width_lt s
  refine ⟨hw, hrows, by rw [href, List.sum_singleton], ?_, ?_⟩
  · rw [href, List.length_singleton, Config.runCap]
    omega
  · rw [href]
    simp only [List.mem_singleton, forall_eq]
    omega

theorem toNat_pos_of_ne_zero {w : BitVec 16} (h : w ≠ 0) : 0 < w.toNat := by
  bv_omega

/-- A stream that MMR_INIT has loaded has rows, and its reference line is white. -/
theorem rowOk_initMmr {bytes : List Byte} {s t : State} (h : initMmr bytes s = .ok t) : RowOk t := by
  obtain ⟨u, hu, h⟩ := try_bind_eq_ok.mp h
  obtain ⟨hw, hh, hl⟩ := parseHeader_eq_ok hu
  have hentered : ∃ v, t = (State.reply (.ok .unit) { whiteReference v with mmrState := .active }).freeRow ∧
      v.width = u.width ∧ v.height = u.height ∧ v.lineno = 0 := by
    dsimp only at h
    split at h
    · obtain ⟨v, hv, h⟩ := try_bind_eq_ok.mp h
      obtain ⟨v', hv', hv⟩ := try_bind_eq_ok.mp hv
      have hlocal := readStripe_stripeLocal hv'
      cases hv
      refine ⟨_, by cases h; rfl, ?_⟩
      rw [hlocal]
      exact ⟨rfl, rfl, hl⟩
    · exact ⟨enterWholeData u, by cases h; rfl, rfl, rfl, hl⟩
  obtain ⟨v, rfl, hvw, hvh, hvl⟩ := hentered
  have hline : LineOk (State.reply (.ok .unit) { whiteReference v with mmrState := .active }).freeRow := by
    refine lineOk_white ?_ ?_ rfl
    · exact toNat_pos_of_ne_zero (hvw ▸ hw)
    · show v.lineno.toNat < v.height.toNat
      rw [hvl, hvh]
      exact toNat_pos_of_ne_zero hh
  exact ⟨fun _ => hline, by simp⟩

/-- A row that starts is sound (spec 40_mmr_modes.md R151). -/
theorem rowOk_startRow_at {s t : State} (hact : s.mmrState = .active) (hline : LineOk s)
    (h : rowLoop (rowStart s) = .ok t) : RowOk t := by
  have hw : 0 < s.width.toNat := hline.1
  have hwithin : (rowStart s).a0 < (rowStart s).width.toNat := Int.natCast_pos.mpr hw
  rw [rowLoop_within hwithin] at h
  cases h
  have hfit : RunsFit s.width.toNat [] := ⟨Nat.zero_le _, by simp⟩
  have hb : s.refAt 0 = refPrefix s 1 := by
    rw [refPrefix_succ s 0]
    exact (Int.zero_add _).symm
  exact (rowOk_mode_iff rfl).mpr ⟨⟨hact, hline, hfit, Int.le_refl 0, rfl⟩, hwithin, Int.natCast_nonneg _,
    ⟨hb, Nat.le_refl 1, rfl, by simp⟩, rfl⟩

theorem rowOk_startRow {k : ScanKind} {s t : State} (hact : s.mmrState = .active) (hline : LineOk s)
    (h : startRow k s = .ok t) : RowOk t := by
  unfold startRow at h
  dsimp only at h
  split at h
  · obtain ⟨u, hu, h⟩ := try_bind_eq_ok.mp h
    obtain ⟨v, hv, hu⟩ := try_bind_eq_ok.mp hu
    have hlocal := nextStripe_stripeLocal hv
    cases hu
    obtain ⟨hw, hrows, -⟩ := hline
    refine rowOk_startRow_at (s := { whiteReference v with scan := k, result := none }) ?_ (lineOk_white ?_ ?_ rfl) h
    · show v.mmrState = .active
      rw [hlocal]
      exact hact
    · show 0 < v.width.toNat
      rw [hlocal]
      exact hw
    · show v.lineno.toNat < v.height.toNat
      rw [hlocal]
      exact hrows
  · exact rowOk_startRow_at (s := { s with scan := k, result := none }) hact hline h

/-! ### Between rows -/

/-- What RowOk says of a state between rows: the unit's state and the reference line. -/
theorem rowOk_between {s t : State} (hs : RowOk s) (hk : SameMmr s t) (hp : t.pos = .idle ∨ t.pos = .zpWait) : RowOk t := by
  obtain ⟨hline, -⟩ := hs
  simp only [SameMmr] at hk
  refine ⟨fun ha => ?_, by rcases hp with hp | hp <;> simp [hp]⟩
  simp only [LineOk, hk] at *
  exact hline ha

theorem sameMmr_refl (s : State) : SameMmr s s := by simp [SameMmr]

theorem rowOk_startScan {k : ScanKind} {s t : State} (hs : RowOk s) (h : startScan k s = .next t) : RowOk t := by
  unfold startScan at h
  split at h
  · cases h
    exact rowOk_between hs (sameMmr_refl s) (.inl rfl)
  · cases h
    exact rowOk_between hs (sameMmr_refl s) (.inl rfl)
  · next hdone =>
    cases h
    exact rowOk_of_idle (s := (beginOutput k s).reply .noLine)
      (fun ha => nomatch hdone.symm.trans (show s.mmrState = .active from ha)) rfl
  · next hact =>
    exact rowOk_of_finishMmr h fun u hu => rowOk_startRow (s := beginOutput k s) hact (hs.1 hact) hu

theorem LoopKeeps.sameMmr {s t : State} (h : LoopKeeps s t) : SameMmr s t := by
  rw [h]
  exact sameMmr_refl s

/-- A JB2 command leaves the MMR unit alone (spec 46_control.md R294), and it has returned or waits for ZP. -/
theorem jb2Command_sameMmr {prepare : State → State} (hp : ∀ s, LoopKeeps s (prepare s)) (zp : Zp) (bank : Bank)
    (dw dh : Word) (s : State) :
    SameMmr s (jb2Command zp bank dw dh prepare s) ∧
      ((jb2Command zp bank dw dh prepare s).pos = .idle ∨ (jb2Command zp bank dw dh prepare s).pos = .zpWait) := by
  unfold jb2Command
  split
  · exact ⟨sameMmr_refl s, .inl rfl⟩
  split
  · exact ⟨sameMmr_refl s, .inl rfl⟩
  · have hloop := ((hp s).trans (loopKeeps_decodeBitmap zp bank dw dh (prepare s))).sameMmr
    split
    · next u hend =>
      rw [hend] at hloop
      exact ⟨hloop, .inl rfl⟩
    · next u hend =>
      rw [hend] at hloop
      exact ⟨hloop, .inl rfl⟩
    · next u hend =>
      rw [hend] at hloop
      exact ⟨hloop, .inr rfl⟩

theorem rowOk_jb2Command {prepare : State → State} (hp : ∀ s, LoopKeeps s (prepare s)) (zp : Zp) (bank : Bank)
    (dw dh : Word) {s : State} (hs : RowOk s) : RowOk (jb2Command zp bank dw dh prepare s) :=
  let ⟨hk, hpos⟩ := jb2Command_sameMmr hp zp bank dw dh s
  rowOk_between hs hk hpos

/-! ## The step -/

/-- Every instruction keeps the row invariants. -/
theorem exec_rowOk {i : Instr} {s t : State} (hs : RowOk s) (h : exec i s = .next t) : RowOk t := by
  cases he : encode i with
  | codeword book code len => exact exec_codeword_rowOk he hs h
  | command c =>
    cases i
    case mmrInit bytes => 
      obtain ⟨-, hbody⟩ := commandAt_eq_next (show execMmrInit bytes s = .next t from h)
      exact rowOk_of_finishMmr hbody fun u => rowOk_initMmr
    case mmrScanruns => exact rowOk_startScan hs (commandAt_eq_next h).2
    case mmrScanrle => exact rowOk_startScan hs (commandAt_eq_next h).2
    case jb2Direct dw dh => exact (exec_jb2Direct h).2 ▸ rowOk_jb2Command LoopKeeps.refl _ _ _ _ hs
    case jb2Cross dw dh mb box =>
      exact (exec_jb2Cross h).2 ▸ rowOk_jb2Command (loopKeeps_holdModel dw dh mb box) _ _ _ _ hs
    case ctxInit =>
      obtain ⟨-, hbody⟩ := commandAt_eq_next (show execCtxInit s = .next t from h)
      cases hbody
      exact rowOk_between hs (sameMmr_refl s) (.inl rfl)
    case writeCtrl v => exact exec_writeCtrl h ▸ rowOk_between hs (sameMmr_refl s) (.inl rfl)
    case readReg n =>
      obtain ⟨-, hbody⟩ := commandAt_eq_next (show execReadReg n s = .next t from h)
      split at hbody <;> (cases hbody; exact rowOk_between hs (sameMmr_refl s) (.inl rfl))
    case reserved opcode => exact exec_reserved h ▸ rowOk_between hs (sameMmr_refl s) (.inl rfl)
    all_goals nomatch he

/-- A codeword that is not there ends the row. -/
theorem rowOk_lookupFailed {s t : State} (h : lookupFailed s = .next t) : RowOk t := by
  rw [lookupFailed_eq] at h
  cases h
  exact rowOk_of_finishMmr (x := .error ⟨_, _, _⟩) rfl fun u hu => nomatch hu

/-- Settles O43: a step is an event of the host, an instruction, or a failed lookup, and each keeps the row invariants. -/
theorem stepKeepsRowInvariants : Obligations.StepKeepsRowInvariants := by
  intro s t hs h
  unfold step at h
  split at h
  · cases h
    exact hs
  · cases h
    exact rowOk_of_idle (s := takeReset s) (fun ha => nomatch (show MmrState.unconf = .active from ha)) rfl
  · cases h
    exact hs
  · next src hf =>
    cases src with
    | command c =>
      split at h
      · exact exec_rowOk (s := s.accept) hs h
      · cases h
    | window books w =>
      split at h
      · exact exec_rowOk hs h
      · exact rowOk_lookupFailed h

end Sys2Proof.Machine

/-! # Runs that cannot be emitted, and rows past W -/

namespace Sys2Proof.Machine

/-! ## Runs that are rejected -/

theorem verticalMode_raises {k : Int} {s : State} (h : CannotEmit s (verticalRun s k)) :
    verticalMode k s = .error ⟨.corruptMMRStream, s.cwstart, moveRef k s⟩ := by
  rw [verticalMode, vertical_raises h, try_error_bind]

/-- A run's value is rejected past A0_LIMIT, and with the run that it ends (spec 40_mmr_modes.md R154, R171). -/
theorem addRun_raises {v : Nat} {s : State} (h : 131072 < s.a0 + v ∨ v < 64 ∧ CannotEmit s (s.rle + v)) :
    addRun v s = .error ⟨.corruptMMRStream, s.cwstart, s.joined v⟩ := by
  by_cases hlimit : 131072 < s.a0 + v
  · exact addRun_limit hlimit
  · obtain ⟨hv, hr⟩ := h.resolve_left hlimit
    rw [addRun_terminating (Int.not_lt.mp hlimit) hv, endRun_raises (s := s.joined v) hr]

theorem exitFixup_raises {c : Colour} {s : State} (h : (s.width.toNat : Int) ≤ s.a0 ∨ c ≠ s.color)
    (hr : CannotEmit s s.rle) : exitFixup c s = .error ⟨.corruptMMRStream, s.cwstart, s⟩ := by
  unfold exitFixup
  dsimp only
  rw [emitPending_raises hr]
  split
  next => rfl
  next hw =>
    rw [if_pos (h.resolve_left hw)]
    rfl

theorem closeTrailing_raises {s : State} (hr : CannotEmit s s.rle) :
    closeTrailing s = .error ⟨.corruptMMRStream, s.cwstart, s⟩ := by
  rw [closeTrailing, emitPending_raises hr, try_error_bind]

/-! ### Literal codes, bit by bit -/

theorem rowLocal_joined (v : Nat) (s : State) : RowLocal s (s.joined v) := rfl

theorem RowLocal.skip {s t : State} (h : RowLocal s t) (n : Nat) : RowLocal (s.skip n) (t.skip n) :=
  congrArg (State.skip n) h

/-- The data that hold m + n bits hold n bits after the first m. -/
theorem hasBits_skip {m n : Nat} {s : State} (h : HasBits s (m + n)) : HasBits (s.skip m) n := by
  have hle : (s.after m).toNat ≤ s.bitpos.toNat + m := by
    simp only [State.after, BitVec.toNat_add, BitVec.toNat_ofNat]
    omega
  show (s.after m).toNat + n ≤ s.sbits
  have h : s.bitpos.toNat + (m + n) ≤ s.sbits := h
  omega

theorem after_skip (m n : Nat) (s : State) : (s.skip m).after n = s.after (m + n) :=
  congrArg State.bitpos (State.skip_skip m n s)

/-- A bit whose pixel has the current colour, left of W. -/
theorem uBit_same {p : Colour} {s : State} (hb : HasBits s 1) (hp : p = s.color) (ha : s.a0 + 1 ≤ s.width.toNat) :
    uBit p s = .ok ((s.taken 1).joined 1) := by
  rw [uBit, takeCodeword_bind hb, uPix_same (s := s.taken 1) hp, try_ok_bind]
  exact uCheck_ok ha

/-- A bit whose pixel changes the colour, left of W: the pending run is emitted (spec 41_mmr_escapes.md R196). -/
theorem uBit_other {p : Colour} {s : State} (hb : HasBits s 1) (hp : p ≠ s.color) (hv : 0 ≤ s.rle)
    (hc : s.cur.length < s.width.toNat + 2) (ha : s.a0 + 1 ≤ s.width.toNat) :
    uBit p s = .ok (((s.taken 1).emitted.setColor p).joined 1) := by
  rw [uBit, takeCodeword_bind hb, uPix_other (s := s.taken 1) hp hv hc, try_ok_bind]
  exact uCheck_ok ha

/-- A bit whose pixel changes the colour where the pending run cannot be emitted. -/
theorem uBit_raises {p : Colour} {s : State} (hb : HasBits s 1) (hp : p ≠ s.color) (hr : CannotEmit s s.rle) :
    uBit p s = .error ⟨.corruptMMRStream, s.bitpos, s.taken 1⟩ := by
  rw [uBit, takeCodeword_bind hb, uPix_raises (s := s.taken 1) hp hr, try_error_bind]

/-- A bit that has been read moves the raise point of what follows. -/
theorem raises_after_bit {k : Nat} {s t : State} {x : Try State} (hl : RowLocal (s.skip 1) t)
    (h : ∃ u, x = .error ⟨.corruptMMRStream, t.after k, u⟩ ∧ RowLocal (t.skip (k + 1)) u) :
    ∃ u, x = .error ⟨.corruptMMRStream, s.after (k + 1), u⟩ ∧ RowLocal (s.skip (k + 1 + 1)) u := by
  obtain ⟨u, hx, hu⟩ := h
  have hskip := (hl.skip (k + 1)).trans hu
  rw [State.skip_skip, Nat.add_comm 1] at hskip
  have hafter : t.after k = s.after (k + 1) := by
    rw [Nat.add_comm k, ← after_skip]
    exact congrArg (· + BitVec.ofNat 35 k) (congrArg State.bitpos hl :)
  exact ⟨u, hafter ▸ hx, hskip⟩

/-- White pixels on a white run, then the black pixel that cannot emit it (spec 41_mmr_escapes.md R196). -/
theorem uLiteral_white_raises {k : Nat} : ∀ {s : State}, s.color = .white → HasBits s (k + 1) →
    s.a0 + k ≤ s.width.toNat → CannotEmit s (s.rle + k) →
    ∃ u, uLiteral k s = .error ⟨.corruptMMRStream, s.after k, u⟩ ∧ RowLocal (s.skip (k + 1)) u := by
  induction k with
  | zero =>
    intro s hc hb _ hr
    rw [Int.natCast_zero, Int.add_zero] at hr
    have hzero : s.after 0 = s.bitpos := congrArg State.bitpos (State.skip_zero s)
    rw [hzero]
    exact ⟨_, uBit_raises hb (by rw [hc]; decide) hr, rfl⟩
  | succ k ih =>
    intro s hc hb ha hr
    have hfirst := uBit_same (p := .white) (s := s) (by omega) hc.symm (by omega)
    rw [uLiteral, hfirst, try_ok_bind]
    have hbits : HasBits ((s.taken 1).joined 1) (k + 1) := hasBits_skip (m := 1) (Nat.add_comm 1 (k + 1) ▸ hb)
    have hrun : ((s.taken 1).joined 1).rle + k = s.rle + (k + 1 : Nat) := by
      show s.rle + 1 + (k : Int) = _
      omega
    refine raises_after_bit (t := (s.taken 1).joined 1) rfl (ih hc hbits ?_ ?_)
    · show s.a0 + 1 + (k : Int) ≤ s.width.toNat
      omega
    · rw [hrun]
      exact hr

/-- A white pixel that takes the row's last place, further white pixels, and a black pixel that finds no room. -/
theorem uLiteral_black_raises {k : Nat} {s : State} (hc : s.color = .black) (hk : 1 ≤ k) (hb : HasBits s (k + 1))
    (ha : s.a0 + k ≤ s.width.toNat) (hr : 0 ≤ s.rle) (hlen : s.cur.length = s.width.toNat + 1) :
    ∃ u, uLiteral k s = .error ⟨.corruptMMRStream, s.after k, u⟩ ∧ RowLocal (s.skip (k + 1)) u := by
  obtain ⟨m, rfl⟩ : ∃ m, k = m + 1 := ⟨k - 1, by omega⟩
  have hfirst := uBit_other (p := .white) (s := s) (by omega) (by rw [hc]; decide) hr (by omega) (by omega)
  rw [uLiteral, hfirst, try_ok_bind]
  have hbits : HasBits (((s.taken 1).emitted.setColor .white).joined 1) (m + 1) :=
    hasBits_skip (m := 1) (Nat.add_comm 1 (m + 1) ▸ hb)
  refine raises_after_bit (t := ((s.taken 1).emitted.setColor .white).joined 1) rfl
    (uLiteral_white_raises rfl hbits ?_ (.inr ?_))
  · show s.a0 + 1 + (m : Int) ≤ s.width.toNat
    omega
  · show s.width.toNat + 2 ≤ (s.cur ++ [s.rle.toNat]).length
    rw [List.length_append, List.length_singleton]
    omega

/-- Settles O37: a clause for each codeword that emits. -/
theorem badRunRaises : Obligations.BadRunRaises := by
  intro s
  refine ⟨?vertical, ?run, ?literal, ?whites, ?exit, ?trailing⟩
  case vertical =>
    intro e he hp hb hr
    rw [exec_vertical he hp hb]
    exact finishMmr_raises (verticalMode_raises hr) ((rowLocal_taken e.2.2 s).trans (rowLocal_moveRef e.2.1 _))
  case run =>
    intro c r hrom hc hb hr
    rw [exec_run hrom hc hb]
    exact finishMmr_raises (addRun_raises hr) ((rowLocal_taken r.len s).trans (rowLocal_joined r.value _))
  case literal =>
    intro e he hp
    rw [exec_literal he hp]
    constructor
    · intro hc hk hb hr
      obtain ⟨m, hm⟩ : ∃ m, e.2 = m + 1 := ⟨e.2 - 1, by omega⟩
      rw [hm, uLiteral, uBit_raises hb (by rw [hc]; decide) hr]
      exact finishMmr_raises rfl (rowLocal_taken 1 s)
    · rintro hb ha (⟨hc, hr⟩ | ⟨hc, hk, hr, hlen⟩)
      · obtain ⟨u, hu, hlocal⟩ := uLiteral_white_raises hc hb ha hr
        exact finishMmr_raises hu hlocal
      · obtain ⟨u, hu, hlocal⟩ := uLiteral_black_raises hc hk hb ha hr hlen
        exact finishMmr_raises hu hlocal
  case whites =>
    intro hp hc hb hr
    rw [exec_u00000 hp hb, uWhites, uPix_raises (s := s.taken 6) (by rw [hc]; decide) hr]
    exact finishMmr_raises rfl (rowLocal_taken 6 s)
  case exit =>
    intro c hp hb hc hr
    rw [exec_ux hp hb, exitFixup_raises (s := s.taken 8) hc hr]
    exact finishMmr_raises rfl (rowLocal_taken 8 s)
  case trailing =>
    intro hp hb hr
    rw [exec_v0_trailing hp hb, closeTrailing_raises (s := s.taken 1) hr]
    exact finishMmr_raises rfl (rowLocal_taken 1 s)

/-! ## Overshoot without the clamp -/

/-- Settles O38: the codeword's run is emitted, and the end of the row raises. -/
theorem overshootRaises : Obligations.OvershootRaises := by
  intro s hovr hcur
  constructor
  · intro e he hp hb hv hw
    rw [exec_vertical_ok he hp hb hcur hv]
    exact finishMmr_raises (afterMode_overshoot hw (Int.le_refl 0) hovr)
      ((rowLocal_taken e.2.2 s).trans ((rowLocal_afterVertical e.2.1 _).trans (rowLocal_resync _)))
  · intro c r hr hv hp hc hb hrle hw
    by_cases hlimit : 131072 < s.a0 + r.value
    · rw [exec_run hr (runColour_run2 hp hc) hb]
      exact finishMmr_raises (addRun_limit hlimit) ((rowLocal_taken r.len s).trans (rowLocal_joined r.value _))
    · rw [exec_secondRun hr hv hp hc hb hrle hcur (Int.not_lt.mp hlimit)]
      exact finishMmr_raises (afterMode_overshoot hw (Int.le_refl 0) hovr)
        ((rowLocal_taken r.len s).trans ((rowLocal_afterSecondRun r.value _).trans (rowLocal_resync _)))

/-! ## Overshoot with the clamp -/

theorem length_pixelsFrom (l : List Nat) : ∀ c : Colour, (pixelsFrom c l).length = l.sum := by
  induction l with
  | nil => exact fun _ => rfl
  | cons n l ih =>
    intro c
    rw [pixelsFrom, List.length_append, List.length_replicate, ih, List.sum_cons]

/-- The pixels of a row's first runs come first; the colour after them is the same whatever runs follow. -/
theorem pixelsFrom_append (l : List Nat) : ∀ c : Colour, ∃ c', ∀ l',
    pixelsFrom c (l ++ l') = pixelsFrom c l ++ pixelsFrom c' l' := by
  induction l with
  | nil => exact fun c => ⟨c, fun _ => rfl⟩
  | cons n l ih =>
    intro c
    obtain ⟨c', hc'⟩ := ih c.other
    refine ⟨c', fun l' => ?_⟩
    rw [List.cons_append, pixelsFrom, pixelsFrom, hc', List.append_assoc]

/-- A row cut at w pixels: the runs before the one that reaches past w, and the part of that run up to w. -/
theorem take_rowPixels {l : List Nat} {w m : Nat} (hm : m < l.length) (hle : (l.take m).sum ≤ w)
    (hlt : w < (l.take (m + 1)).sum) :
    (rowPixels l).take w = rowPixels (l.take m ++ [w - (l.take m).sum]) := by
  obtain ⟨c, hc⟩ := pixelsFrom_append (l.take m) .white
  have hsplit : l = l.take m ++ (l[m] :: l.drop (m + 1)) := by
    rw [← List.drop_eq_getElem_cons hm, List.take_append_drop]
  have hrun : w - (l.take m).sum ≤ l[m] := by
    rw [sum_take_succ, ← List.getElem_eq_getD (h := hm) 0] at hlt
    omega
  calc (rowPixels l).take w
      = (pixelsFrom .white (l.take m) ++ pixelsFrom c (l[m] :: l.drop (m + 1))).take w := by
        rw [← hc, ← hsplit, rowPixels]
    _ = pixelsFrom .white (l.take m) ++ List.replicate (w - (l.take m).sum) c := by
        rw [List.take_append, length_pixelsFrom, List.take_of_length_le (by rwa [length_pixelsFrom]), pixelsFrom,
          List.take_append_of_le_length (by rwa [List.length_replicate]), List.take_replicate, Nat.min_eq_left hrun]
    _ = rowPixels (l.take m ++ [w - (l.take m).sum]) := by
        rw [rowPixels, hc, pixelsFrom, pixelsFrom, List.append_nil]

/-- The clamped row is the first W pixels of the row (spec 40_mmr_modes.md R168). -/
theorem clampRow_pixels {s : State} (ha : s.a0 = s.cur.sum) (hw : (s.width.toNat : Int) < s.a0) :
    (clampRow s).cur.sum = s.width.toNat ∧ rowPixels (clampRow s).cur = (rowPixels s.cur).take s.width.toNat := by
  obtain ⟨m, hm, hle, hlt, hcur⟩ := clampRow_cur ha hw
  rw [hcur, take_rowPixels hm hle hlt]
  split
  next hpart =>
    refine ⟨?_, rfl⟩
    rw [List.sum_append, List.sum_singleton]
    omega
  next hwhole =>
    obtain ⟨c, hc⟩ := pixelsFrom_append (s.cur.take m) .white
    have hzero : s.width.toNat - (s.cur.take m).sum = 0 := by omega
    rw [List.append_nil, rowPixels, rowPixels, hzero, hc]
    exact ⟨by omega, (List.append_nil _).symm⟩

/-- A mode that takes a sound row past W returns its first W pixels under the clamp. -/
theorem afterMode_clamp_pixels {s t : State} (hl : RowLocal s t) (hovr : t.ovrClamp = true) (ha : t.a0 = t.cur.sum)
    (hr : t.rle = 0) (hw : (t.width.toNat : Int) < t.a0) :
    ∃ row : List Nat, finishMmr (afterMode t) = .next (rowReturned s row) ∧ row.sum = t.width.toNat ∧
      rowPixels row = (rowPixels t.cur).take t.width.toNat := by
  rw [afterMode_clamp hl hw (Int.le_of_eq hr) hovr]
  exact ⟨_, rfl, clampRow_pixels (s := resync t) ha hw⟩

/-- The sum of a row with a run emitted. -/
theorem sum_emitted {l : List Nat} {v a : Int} (hv : 0 ≤ v) (hsum : (l.sum : Int) + v = a) :
    a = ((l ++ [v.toNat]).sum : Nat) := by
  rw [List.sum_append, List.sum_singleton]
  omega

/-- Settles O39: the codeword's run is emitted, and the row that it ends is clamped. -/
theorem overshootClampKeepsFirstPixels : Obligations.OvershootClampKeepsFirstPixels := by
  intro s hovr hcur hsum
  constructor
  · intro e he hp hb hv hw
    have hrun : (s.cur.sum : Int) + verticalRun s e.2.1 = s.b1 + e.2.1 := by
      rw [verticalRun]
      omega
    rw [exec_vertical_ok he hp hb hcur hv]
    exact afterMode_clamp_pixels ((rowLocal_taken e.2.2 s).trans (rowLocal_afterVertical e.2.1 _)) hovr
      (sum_emitted hv hrun) rfl hw
  · intro c r hr hv hp hc hb hrle hw hlimit
    have hrun : (s.cur.sum : Int) + (s.rle + r.value) = s.a0 + r.value := by omega
    rw [exec_secondRun hr hv hp hc hb hrle hcur hlimit]
    exact afterMode_clamp_pixels ((rowLocal_taken r.len s).trans (rowLocal_afterSecondRun r.value _)) hovr
      (sum_emitted hrle hrun) rfl hw

end Sys2Proof.Machine

/-! # The escapes: EOFB and uncompressed mode -/

namespace Sys2Proof.Machine

/-- Settles O29: what marking CWSTART writes is a free value after the scan's return. -/
theorem eofbEndsImage : Obligations.EofbEndsImage := by
  intro s hp
  rw [show exec .eofb s = execEofb s from rfl, execEofb, codewordAt_at hp]
  rfl

/-! ## Literal codes -/

theorem after_zero (s : State) : s.after 0 = s.bitpos := congrArg State.bitpos (State.skip_zero s)

/-- The data that hold one more bit than n hold n after it. -/
theorem hasBits_skip_one {n : Nat} {s : State} (h : HasBits s (n + 1)) : HasBits (s.skip 1) n :=
  hasBits_skip (Nat.add_comm 1 n ▸ h)

/-- s with a literal code of k white pixels and one black consumed, and what it leaves of the pending run and of the row
(spec 41_mmr_escapes.md R193, R194). -/
def State.literal (k : Nat) (row : List Nat) (run : Int) (s : State) : State :=
  { s with
    cwstart := s.after k, bitpos := s.after (k + 1), a0 := s.a0 + (k + 1 : Nat), color := .black, rle := run, cur := row }

/-- t is s with one bit of a literal code consumed and its pixel taken (spec 41_mmr_escapes.md R193). -/
def AfterPixel (s t : State) : Prop := t = { s.taken 1 with a0 := s.a0 + 1, color := t.color, rle := t.rle, cur := t.cur }

/-- A literal code is its first pixel and the literal code of the others. -/
theorem literal_afterPixel {s t : State} (h : AfterPixel s t) (k : Nat) (row : List Nat) (run : Int) :
    t.literal k row run = s.literal (k + 1) row run := by
  have hafter (n : Nat) : (s.taken 1).after n = s.after (n + 1) := by
    rw [Nat.add_comm n, ← after_skip]
    rfl
  have ha : s.a0 + 1 + (k + 1 : Nat) = s.a0 + (k + 1 + 1 : Nat) := by omega
  rw [h]
  calc _ = { s.literal (k + 1) row run with
        cwstart := (s.taken 1).after k, bitpos := (s.taken 1).after (k + 1), a0 := s.a0 + 1 + (k + 1 : Nat) } := rfl
    _ = s.literal (k + 1) row run := by
      rw [hafter, hafter, ha]
      rfl

/-- A literal code on a white run: its white pixels join the run, and the black one emits it
(spec 41_mmr_escapes.md R193, R196). -/
theorem uLiteral_white_ok {k : Nat} : ∀ {s : State}, s.color = .white → HasBits s (k + 1) →
    s.a0 + (k + 1 : Nat) ≤ s.width.toNat → 0 ≤ s.rle → s.cur.length < s.width.toNat + 2 →
    uLiteral k s = .ok (s.literal k (s.cur ++ [(s.rle + k).toNat]) 1) := by
  induction k with
  | zero =>
    intro s hc hb ha hr hlen
    rw [uLiteral, uBit_other hb (by rw [hc]; decide) hr hlen ha, State.literal, after_zero, Int.natCast_zero, Int.add_zero]
    rfl
  | succ k ih =>
    intro s hc hb ha hr hlen
    have hfirst := uBit_same (p := .white) (s := s) (by omega) hc.symm (by omega)
    have hbits : HasBits ((s.taken 1).joined 1) (k + 1) := hasBits_skip_one hb
    have hroom : s.a0 + 1 + (k + 1 : Nat) ≤ s.width.toNat := by omega
    have hrun : s.rle + 1 + (k : Int) = s.rle + (k + 1 : Nat) := by omega
    have hrest := ih (s := (s.taken 1).joined 1) hc hbits hroom (Int.add_nonneg hr (by decide)) hlen
    have hpixel : AfterPixel s ((s.taken 1).joined 1) := rfl
    rw [uLiteral, hfirst, try_ok_bind, hrest, literal_afterPixel hpixel]
    exact congrArg (fun run : Int => Except.ok (s.literal (k + 1) (s.cur ++ [run.toNat]) 1)) hrun

/-- The literal code of the one black pixel, on a black run: the pixel joins the run. -/
theorem uLiteral_zero_black_ok {s : State} (hc : s.color = .black) (hb : HasBits s 1) (ha : s.a0 + 1 ≤ s.width.toNat) :
    uLiteral 0 s = .ok (s.literal 0 s.cur (s.rle + 1)) := by
  rw [uLiteral, uBit_same hb hc.symm ha, State.literal, after_zero, ← hc]
  rfl

/-- A literal code with white pixels on a black run: the first of them emits the run, the black one emits theirs. -/
theorem uLiteral_succ_black_ok {k : Nat} {s : State} (hc : s.color = .black) (hb : HasBits s (k + 1 + 1))
    (ha : s.a0 + (k + 1 + 1 : Nat) ≤ s.width.toNat) (hr : 0 ≤ s.rle) (hlen : s.cur.length ≤ s.width.toNat) :
    uLiteral (k + 1) s = .ok (s.literal (k + 1) (s.cur ++ [s.rle.toNat, k + 1]) 1) := by
  have hfirst := uBit_other (p := .white) (s := s) (by omega) (by rw [hc]; decide) hr (by omega) (by omega)
  have hbits : HasBits (((s.taken 1).emitted.setColor .white).joined 1) (k + 1) := hasBits_skip_one hb
  have hroom : s.a0 + 1 + (k + 1 : Nat) ≤ s.width.toNat := by omega
  have hlen' : (s.cur ++ [s.rle.toNat]).length < s.width.toNat + 2 := by
    rw [List.length_append, List.length_singleton]
    omega
  have hrow : s.cur ++ [s.rle.toNat] ++ [((1 : Int) + k).toNat] = s.cur ++ [s.rle.toNat, k + 1] := by
    rw [List.append_assoc, show ((1 : Int) + k).toNat = k + 1 by omega]
    rfl
  have hrest := uLiteral_white_ok rfl hbits hroom Int.one_nonneg hlen'
  have hpixel : AfterPixel s (((s.taken 1).emitted.setColor .white).joined 1) := rfl
  rw [uLiteral, hfirst, try_ok_bind, hrest, literal_afterPixel hpixel]
  exact congrArg (fun row => Except.ok (s.literal (k + 1) row 1)) hrow

/-- Settles O30: by the colour, and on a black run by whether the code starts with a white pixel. -/
theorem literalPixels : Obligations.LiteralPixels := by
  rintro ⟨i, k⟩ he s hp hb ha hr hlen
  rw [exec_literal he hp]
  cases hc : s.color with
  | white =>
    rw [uLiteral_white_ok hc hb ha hr (by omega)]
    rfl
  | black =>
    cases k with
    | zero =>
      rw [uLiteral_zero_black_ok hc hb ha]
      rfl
    | succ k =>
      rw [uLiteral_succ_black_ok hc hb ha hr hlen]
      rfl

/-! ## The code 000001 -/

/-- s with n white pixels taken (spec 41_mmr_escapes.md R195, R196). -/
def State.whites (n : Nat) (s : State) : State :=
  { s with
    a0 := s.a0 + n
    color := .white
    rle := if s.color = .white then s.rle + n else n
    cur := if s.color = .white then s.cur else s.cur ++ [s.rle.toNat] }

theorem rowLocal_whites (n : Nat) (s : State) : RowLocal s (s.whites n) := rfl

/-- White pixels on a white run join it. -/
theorem uWhites_same {n : Nat} : ∀ {s : State}, s.color = .white → uWhites n s = .ok (s.joined n) := by
  induction n with
  | zero =>
    intro s _
    rw [uWhites, State.joined, Int.natCast_zero, Int.add_zero, Int.add_zero]
  | succ n ih =>
    intro s hc
    have hsum (a : Int) : a + 1 + (n : Int) = a + (n + 1 : Nat) := by omega
    rw [uWhites, uPix_same hc.symm, try_ok_bind, ih (by exact hc), State.joined, hsum, hsum]

/-- White pixels where the pending run may be emitted: the first of them emits a black one. -/
theorem uWhites_ok {n : Nat} {s : State} (hr : 0 ≤ s.rle) (hlen : s.cur.length < s.width.toNat + 2) :
    uWhites (n + 1) s = .ok (s.whites (n + 1)) := by
  cases hc : s.color with
  | white =>
    rw [uWhites_same hc, State.whites, if_pos hc, if_pos hc, ← hc]
  | black =>
    have hne : s.color ≠ .white := by rw [hc]; decide
    have ha : s.a0 + 1 + (n : Int) = s.a0 + (n + 1 : Nat) := by omega
    have hrun : (1 : Int) + n = (n + 1 : Nat) := by omega
    rw [uWhites, uPix_other hne.symm hr hlen, try_ok_bind, uWhites_same rfl, State.whites, if_neg hne, if_neg hne,
      State.joined, ha, hrun]

/-- `000001` where the pending run may be emitted, up to the check of W. -/
theorem exec_u00000_ok {s : State} (hp : s.pos = .unc) (hb : HasBits s 6) (hr : 0 ≤ s.rle)
    (hlen : s.cur.length < s.width.toNat + 2) : exec .u00000 s = finishMmr (uCheck ((s.taken 6).whites 5)) := by
  rw [exec_u00000 hp hb, uWhites_ok (s := s.taken 6) hr hlen, try_ok_bind]

/-- Settles O31: the five pixels, which the check of W passes. -/
theorem fiveWhitePixels : Obligations.FiveWhitePixels := by
  intro s hp hb ha hr hlen
  rw [exec_u00000_ok hp hb hr hlen, uCheck_ok (by exact ha)]
  rfl

/-! ## The exit -/

theorem restartRef_eq_ite (s : State) :
    restartRef s = { s with
      pr := if s.color = .white then 1 else 2
      b1 := if s.color = .white then s.refAt 0 else s.refAt 0 + s.refAt 1 } := by
  unfold restartRef
  split
  next hc => rw [if_pos hc, if_pos hc]
  next hc =>
    have hne : s.color ≠ .white := by rw [hc]; decide
    rw [if_neg hne, if_neg hne]

theorem rowLocal_restartRef (s : State) : RowLocal s (restartRef s) := by
  rw [restartRef_eq]
  rfl

/-- s with c as its colour, the pending run of the other colour emitted (spec 41_mmr_escapes.md R200). -/
def State.exitColour (c : Colour) (s : State) : State :=
  { s with
    color := c
    cur := if c = s.color then s.cur else s.cur ++ [s.rle.toNat]
    rle := if c = s.color then s.rle else 0 }

/-- The exit left of W (spec 41_mmr_escapes.md R200). -/
theorem exitFixup_within {c : Colour} {s : State} (ha : s.a0 < s.width.toNat)
    (hr : c ≠ s.color → 0 ≤ s.rle ∧ s.cur.length < s.width.toNat + 2) :
    exitFixup c s = .ok (restartRef (s.exitColour c)) := by
  unfold exitFixup State.exitColour
  rw [if_neg (Int.not_le.mpr ha)]
  by_cases hc : c = s.color
  · rw [if_neg (not_not_intro hc), if_pos hc, if_pos hc, hc]
    rfl
  · obtain ⟨hrle, hlen⟩ := hr hc
    rw [if_pos hc, if_neg hc, if_neg hc, emitPending_ok hrle hlen]
    rfl

/-- The exit at W emits the pending run, whatever T is (spec 41_mmr_escapes.md R200). -/
theorem exitFixup_at_width (c : Colour) {s : State} (ha : (s.width.toNat : Int) ≤ s.a0) (hr : 0 ≤ s.rle)
    (hlen : s.cur.length < s.width.toNat + 2) : exitFixup c s = .ok (restartRef s.emitted) := by
  unfold exitFixup
  rw [if_pos ha, emitPending_ok hr hlen]
  rfl

/-- Settles O32: the exit's fixup, then the row goes on left of W. -/
theorem uncompressedExitWithinRow : Obligations.UncompressedExitWithinRow := by
  intro s c hp hb ha hr
  rw [exec_ux hp hb, exitFixup_within (s := s.taken 8) ha hr, try_ok_bind, restartRef_eq_ite,
    afterMode_within (by exact ha)]
  rfl

/-- Settles O33: the exit's fixup emits the pending run, and the row, which ends at W, is returned. -/
theorem uncompressedExitEndsRow : Obligations.UncompressedExitEndsRow := by
  intro s c hp hb ha hr hlen
  have hlocal : RowLocal { s with bitpos := s.after 8 } (restartRef (s.taken 8).emitted) :=
    RowLocal.trans (t := (s.taken 8).emitted) rfl (rowLocal_restartRef _)
  have hfix := exitFixup_at_width c (s := s.taken 8) (Int.le_of_eq ha.symm) hr hlen
  rw [restartRef_eq] at hlocal hfix
  rw [exec_ux hp hb, hfix, try_ok_bind, afterMode_returns hlocal ha (Int.le_refl 0)]
  rfl

/-! ## Past W -/

/-- The pending run can be emitted at a pixel code, and a white one's run after it (spec 40_mmr_modes.md R164). -/
def UncRoom (s : State) : Prop :=
  0 ≤ s.rle ∧ s.cur.length < s.width.toNat + 2 ∧ (s.color = .black → s.cur.length < s.width.toNat + 1)

/-- A white pixel left of W leaves room for the black one that follows it. -/
theorem uBit_white_ok {s : State} (hb : HasBits s 1) (hroom : UncRoom s) (ha : s.a0 + 1 ≤ s.width.toNat) :
    ∃ t, uBit .white s = .ok t ∧ RowLocal (s.skip 1) t ∧ t.a0 = s.a0 + 1 ∧ UncRoom t := by
  obtain ⟨hr, hlen, hblack⟩ := hroom
  cases hc : s.color with
  | white =>
    have hnext : UncRoom ((s.taken 1).joined 1) :=
      ⟨Int.add_nonneg hr (by decide), hlen, fun h => nomatch hc.symm.trans h⟩
    exact ⟨_, uBit_same hb hc.symm ha, rfl, rfl, hnext⟩
  | black =>
    have hlen' : (s.cur ++ [s.rle.toNat]).length < s.width.toNat + 2 := by
      rw [List.length_append, List.length_singleton]
      exact Nat.succ_lt_succ (hblack hc)
    have hnext : UncRoom (((s.taken 1).emitted.setColor .white).joined 1) := ⟨Int.one_nonneg, hlen', nofun⟩
    exact ⟨_, uBit_other hb (by rw [hc]; decide) hr hlen ha, rfl, rfl, hnext⟩

/-- The bit whose pixel passes W raises, whatever its colour (spec 41_mmr_escapes.md R193, R196). -/
theorem uBit_overshoot (p : Colour) {s : State} (hb : HasBits s 1) (hroom : UncRoom s) (ha : s.a0 = s.width.toNat) :
    ∃ u, uBit p s = .error ⟨.corruptMMRStream, s.bitpos, u⟩ ∧ RowLocal (s.skip 1) u := by
  obtain ⟨hr, hlen, -⟩ := hroom
  have hpast : (s.width.toNat : Int) < s.a0 + 1 := by omega
  rw [uBit, takeCodeword_bind hb]
  by_cases hc : p = s.color
  · rw [uPix_same (s := s.taken 1) hc, try_ok_bind, uCheck_raises (by exact hpast)]
    exact ⟨_, rfl, rfl⟩
  · rw [uPix_other (s := s.taken 1) hc hr hlen, try_ok_bind, uCheck_raises (by exact hpast)]
    exact ⟨_, rfl, rfl⟩

/-- A literal code of more pixels than are left of W raises at the first that is not (spec 41_mmr_escapes.md R193). -/
theorem uLiteral_overshoot {left : Nat} : ∀ {k : Nat} {s : State}, left ≤ k → HasBits s (left + 1) → UncRoom s →
    s.a0 + left = s.width.toNat →
    ∃ u, uLiteral k s = .error ⟨.corruptMMRStream, s.after left, u⟩ ∧ RowLocal (s.skip (left + 1)) u := by
  induction left with
  | zero =>
    intro k s _ hb hroom ha
    rw [Int.natCast_zero, Int.add_zero] at ha
    rw [after_zero]
    cases k with
    | zero => exact uBit_overshoot .black hb hroom ha
    | succ k =>
      obtain ⟨u, hu, hl⟩ := uBit_overshoot .white hb hroom ha
      rw [uLiteral, hu]
      exact ⟨u, rfl, hl⟩
  | succ left ih =>
    intro k s hk hb hroom ha
    obtain ⟨m, rfl⟩ : ∃ m, k = m + 1 := ⟨k - 1, by omega⟩
    obtain ⟨t, ht, hl, ha', hroom'⟩ := uBit_white_ok (s := s) (by omega) hroom (by omega)
    have hbits : HasBits t (left + 1) := by
      rw [hl]
      exact hasBits_skip_one hb
    have hwidth : t.width = s.width := (congrArg State.width hl :)
    rw [uLiteral, ht, try_ok_bind]
    exact raises_after_bit hl (ih (by omega) hbits hroom' (by rw [hwidth]; omega))

/-- Settles O40: a literal code at the bit that passes W, `000001` at the check after its pixels. -/
theorem uncompressedOvershootRaises : Obligations.UncompressedOvershootRaises := by
  intro s left hp ha hr hlen
  constructor
  · intro e he hk hb
    have hroom : UncRoom s := ⟨hr, by omega, fun _ => by omega⟩
    obtain ⟨u, hu, hl⟩ := uLiteral_overshoot (Nat.le_of_lt_succ hk) hb hroom ha
    rw [exec_literal he hp]
    exact finishMmr_raises hu hl
  · intro hleft hb
    have hpast : (s.width.toNat : Int) < s.a0 + 5 := by omega
    rw [exec_u00000_ok hp hb hr (by omega)]
    exact finishMmr_raises (uCheck_raises hpast) ((rowLocal_taken 6 s).trans (rowLocal_whites 5 _))

end Sys2Proof.Machine

/-! # Inversion of a row -/

namespace Sys2Proof.Machine

/-- The same runs from the other colour on. -/
theorem pixelsFrom_other (l : List Nat) : ∀ c : Colour, pixelsFrom c.other l = (pixelsFrom c l).map Colour.other := by
  induction l with
  | nil => exact fun _ => rfl
  | cons n l ih =>
    intro c
    rw [pixelsFrom, pixelsFrom, ih c.other, List.map_append, List.map_replicate]

/-- A row whose first run is not empty gets an empty white run in front (spec 42_mmr_commands.md R217). -/
theorem invertRuns_of_pos {n : Nat} (h : 0 < n) (l : List Nat) : invertRuns (n :: l) = 0 :: n :: l := by
  cases n with
  | zero => exact absurd h (Nat.lt_irrefl 0)
  | succ n => rfl

/-- Inversion starts the row's runs with the other colour, whether it drops an empty run or adds one. -/
theorem rowPixels_invertRuns (l : List Nat) : rowPixels (invertRuns l) = pixelsFrom .black l := by
  match l with
  | [] => rfl
  | 0 :: l => rfl
  | (n + 1) :: l => rfl

theorem sum_invertRuns (l : List Nat) : (invertRuns l).sum = l.sum := by
  match l with
  | [] => rfl
  | 0 :: l => exact (Nat.zero_add l.sum).symm
  | (n + 1) :: l => exact Nat.zero_add _

/-- Settles O41: the runs are those of a row that starts with the other colour. -/
theorem invertFlipsEveryPixel : Obligations.InvertFlipsEveryPixel := fun l =>
  ⟨(rowPixels_invertRuns l).trans (pixelsFrom_other l .white), sum_invertRuns l⟩

end Sys2Proof.Machine

/-! # The run-sum rule: a returned row has W pixels -/

namespace Sys2Proof.Machine

/-! ## What a returned row leaves in the registers -/

section
variable (s : State) (row : List Nat)

@[simp] theorem rowReturned_pos : (rowReturned s row).pos = .idle := rfl
@[simp] theorem rowReturned_inbox : (rowReturned s row).inbox = s.inbox := rfl
@[simp] theorem rowReturned_result : (rowReturned s row).result = some (.ok (rowPayload s row)) := rfl
@[simp] theorem rowReturned_width : (rowReturned s row).width = s.width := rfl
@[simp] theorem rowReturned_ref : (rowReturned s row).ref = row := rfl
@[simp] theorem rowReturned_bitpos : (rowReturned s row).bitpos = s.bitpos := rfl
@[simp] theorem rowReturned_lineno : (rowReturned s row).lineno = s.lineno + 1 := rfl
@[simp] theorem rowReturned_mmrState :
    (rowReturned s row).mmrState = if s.lineno + 1 = s.height then .done else s.mmrState := rfl

end

/-! ## The sum of a row in progress -/

/-- The row in progress adds up: the runs so far and the pending run make A0 (spec 40_mmr_modes.md R170 (d)); a row in the result
port sums to W. -/
def RowSum (s : State) : Prop := (0 ≤ s.rle ∧ (s.cur.sum : Int) + s.rle = s.a0) ∧ ReturnedRowOk s

theorem returnedRowOk_of_none {s : State} (h : returnedRuns s.result = none) : ReturnedRowOk s := by
  simp [ReturnedRowOk, h]

theorem returnedRowOk_rowReturned {s : State} {row : List Nat} (h : row.sum = s.width.toNat) :
    ReturnedRowOk (rowReturned s row) := by
  rw [ReturnedRowOk, rowReturned_result, rowReturned_width]
  cases hs : s.scan
  case runs =>
    simp only [rowPayload, hs, returnedRuns, Option.mem_def, Option.some.injEq, forall_eq']
    split
    · rw [sum_invertRuns, h]
    · exact h
  case rle => simp [rowPayload, hs, returnedRuns]

theorem returnedRowOk_closeRow {s t : State} (h : closeRow s = .ok t) (hs : RowSum s) (hr : s.rle ≤ 0)
    (hw : (s.width.toNat : Int) ≤ s.a0) : ReturnedRowOk t := by
  obtain ⟨⟨hrle, hsum⟩, -⟩ := hs
  have ha : s.a0 = s.cur.sum := by omega
  by_cases hover : (s.width.toNat : Int) < s.a0
  · cases hc : s.ovrClamp
    case false =>
      rw [closeRow_overshoot hover hc] at h
      cases h
    case true =>
      rw [closeRow_clamp hover hc, rowReturned_of_rowLocal (rowLocal_clampRow s)] at h
      cases h
      exact returnedRowOk_rowReturned (clampRow_pixels ha hover).1
  · rw [closeRow_at_width (Int.not_lt.mp hover)] at h
    cases h
    exact returnedRowOk_rowReturned (by omega)

theorem returnedRowOk_rowLoop {s t : State} (h : rowLoop s = .ok t) (hs : RowSum s) : ReturnedRowOk t := by
  by_cases hw : s.a0 < s.width.toNat
  · rw [rowLoop_within hw] at h
    cases h
    exact hs.2
  · by_cases hr : 0 < s.rle
    · rw [rowLoop_trailing (Int.not_lt.mp hw) hr] at h
      cases h
      exact hs.2
    · rw [rowLoop_ends (Int.not_lt.mp hw) (Int.not_lt.mp hr)] at h
      exact returnedRowOk_closeRow h hs (Int.not_lt.mp hr) (Int.not_lt.mp hw)

/-- The reference pointer has no part in the sum. -/
theorem returnedRowOk_afterMode {s t : State} (h : afterMode s = .ok t) (hs : RowSum s) : ReturnedRowOk t :=
  returnedRowOk_rowLoop (s := resync s) h hs

theorem rowSum_joined {s : State} (hs : RowSum s) (v : Nat) : RowSum (s.joined v) := by
  obtain ⟨⟨hrle, hsum⟩, hret⟩ := hs
  refine ⟨⟨Int.add_nonneg hrle (Int.natCast_nonneg v), ?_⟩, hret⟩
  rw [← Int.add_assoc, hsum]

theorem rowSum_emitPending {s t : State} (hs : RowSum s) (h : emitPending s = .ok t) :
    RowSum s.emitted ∧ t = s.emitted := by
  obtain ⟨⟨-, hsum⟩, hret⟩ := hs
  obtain ⟨hv, -, rfl⟩ := emitPending_eq_ok h
  exact ⟨⟨⟨Int.le_refl 0, (Int.add_zero _).trans (sum_emitted hv hsum).symm⟩, hret⟩, rfl⟩

theorem RowSum.returnedRowOk {s : State} (h : RowSum s) : ReturnedRowOk s := h.2

/-- An operation of the row program keeps the sum, where it answers a state. -/
def KeepsRowSum (f : State → Try State) : Prop := ∀ s t, RowSum s → f s = .ok t → RowSum t

theorem KeepsRowSum.bind {f g : State → Try State} (hf : KeepsRowSum f) (hg : KeepsRowSum g) :
    KeepsRowSum (fun s => f s >>= g) := by
  intro s t hs h
  obtain ⟨u, hu, ht⟩ := try_bind_eq_ok.mp h
  exact hg u t (hf s u hs hu) ht

theorem keepsRowSum_takeCodeword (n : Nat) : KeepsRowSum (takeCodeword n) := by
  intro s t hs h
  obtain ⟨-, rfl⟩ := takeCodeword_eq_ok h
  exact hs

theorem keepsRowSum_vertical (k : Int) : KeepsRowSum (vertical k) := by
  rintro s t ⟨⟨-, hsum⟩, hret⟩ h
  obtain ⟨hv, -, rfl⟩ := vertical_eq_ok h
  have hrun : (s.cur.sum : Int) + verticalRun s k = s.b1 + k := by
    rw [verticalRun]
    omega
  exact ⟨⟨Int.le_refl 0, (Int.add_zero _).trans (sum_emitted hv hrun).symm⟩, hret⟩

theorem keepsRowSum_uPix (p : Colour) : KeepsRowSum (uPix p) := by
  intro s t hs h
  obtain ⟨-, rfl⟩ | ⟨-, u, hu, rfl⟩ := uPix_eq_ok h
  · exact rowSum_joined hs 1
  · obtain ⟨hs', rfl⟩ := rowSum_emitPending hs hu
    exact rowSum_joined (s := s.emitted.setColor p) hs' 1

theorem keepsRowSum_uCheck : KeepsRowSum uCheck := by
  intro s t hs h
  unfold uCheck at h
  split at h
  · cases h
  · cases h
    exact hs

theorem keepsRowSum_uBit (p : Colour) : KeepsRowSum (uBit p) :=
  (keepsRowSum_takeCodeword 1).bind ((keepsRowSum_uPix p).bind keepsRowSum_uCheck)

theorem keepsRowSum_uLiteral (k : Nat) : KeepsRowSum (uLiteral k) := by
  induction k with
  | zero => exact keepsRowSum_uBit .black
  | succ k ih => exact (keepsRowSum_uBit .white).bind ih

theorem keepsRowSum_uWhites (n : Nat) : KeepsRowSum (uWhites n) := by
  induction n with
  | zero =>
    intro s t hs h
    cases h
    exact hs
  | succ n ih => exact (keepsRowSum_uPix .white).bind ih

theorem keepsRowSum_exitFixup (c : Colour) : KeepsRowSum (exitFixup c) := by
  intro s t hs h
  obtain ⟨u, rfl, ⟨-, hu⟩ | ⟨-, ⟨-, v, hv, rfl⟩ | rfl⟩⟩ := exitFixup_eq_ok h
  · obtain ⟨hs', rfl⟩ := rowSum_emitPending hs hu
    exact restartRef_eq _ ▸ hs'
  · obtain ⟨hs', rfl⟩ := rowSum_emitPending hs hv
    exact restartRef_eq _ ▸ hs'
  · exact restartRef_eq _ ▸ hs

/-! ## Codewords return rows of W pixels -/

/-- From a position on, an operation of the row program leaves in the result port a row of W pixels or none, where it answers a
state. -/
def ReturnsRow (p : Position) (f : State → Try State) : Prop :=
  ∀ s t, s.pos = p → RowOk s → ReturnedRowOk s → f s = .ok t → ReturnedRowOk t

/-- Inside a row the sum is all that an operation needs (spec 40_mmr_modes.md R170 (d)). -/
theorem ReturnsRow.of_rowSum {p : Position} {f : State → Try State} (hp : p ≠ .idle ∧ p ≠ .zpWait)
    (hf : ∀ s t, RowSum s → f s = .ok t → ReturnedRowOk t) : ReturnsRow p f := by
  rintro s t rfl ⟨-, hrow, -⟩ hret h
  obtain ⟨-, -, hrle, hsum⟩ := hrow hp.1 hp.2
  exact hf s t ⟨⟨hrle, hsum⟩, hret⟩ h

theorem KeepsRowSum.returnsRow {p : Position} {f : State → Try State} (hf : KeepsRowSum f)
    (hp : p ≠ .idle ∧ p ≠ .zpWait) : ReturnsRow p f :=
  .of_rowSum hp fun s t hs h => (hf s t hs h).returnedRowOk

/-- A mode ends after what has kept the sum. -/
theorem KeepsRowSum.returnsRow_afterMode {p : Position} {f : State → Try State} (hf : KeepsRowSum f)
    (hp : p ≠ .idle ∧ p ≠ .zpWait) : ReturnsRow p (fun s => f s >>= afterMode) :=
  .of_rowSum hp fun s _ hs h =>
    let ⟨u, hu, ht⟩ := try_bind_eq_ok.mp h
    returnedRowOk_afterMode ht (hf s u hs hu)

/-- An operation that only moves the sequencer leaves the result port alone. -/
theorem returnsRow_pos (p q : Position) : ReturnsRow p (fun s => .ok { s with pos := q }) := by
  intro s t _ _ hret h
  cases h
  exact hret

theorem ReturnsRow.takeCodeword {p : Position} {f : State → Try State} (hf : ReturnsRow p f) (n : Nat) :
    ReturnsRow p (fun s => takeCodeword n s >>= f) := by
  intro s t hp hs hret h
  obtain ⟨u, hu, ht⟩ := try_bind_eq_ok.mp h
  obtain ⟨-, rfl⟩ := takeCodeword_eq_ok hu
  exact hf (s.taken n) t hp hs hret ht

theorem returnsRow_rejectTrailing : ReturnsRow .trailing rejectTrailing := by
  intro s t _ _ _ h
  cases h

/-- At the trailing-run check A0 is W (spec 40_mmr_modes.md R166). -/
theorem returnsRow_closeTrailing : ReturnsRow .trailing closeTrailing := by
  intro s t hp hs hret h
  obtain ⟨⟨-, -, -, hrle, hsum⟩, ha, -, -⟩ := (rowOk_trailing_iff hp).mp hs
  obtain ⟨u, hu, ht⟩ := try_bind_eq_ok.mp h
  obtain ⟨hs', rfl⟩ := rowSum_emitPending ⟨⟨hrle, hsum⟩, hret⟩ hu
  exact returnedRowOk_closeRow ht hs' (Int.le_refl 0) (Int.le_of_eq ha.symm)

/-- Pass keeps the pending run from being negative because B1 is not left of A0 (spec 40_mmr_modes.md R170 (b)). -/
theorem returnsRow_pass : ReturnsRow .mode (fun s => afterMode (pass s)) := by
  intro s t hp hs hret h
  obtain ⟨⟨-, -, -, hrle, hsum⟩, -, hab, -, -⟩ := (rowOk_mode_iff hp).mp hs
  have hnonneg : 0 ≤ s.refAt s.pr := Int.natCast_nonneg _
  refine returnedRowOk_afterMode h ⟨⟨?_, ?_⟩, hret⟩
  · show 0 ≤ s.rle + (s.b1 + s.refAt s.pr - s.a0)
    omega
  · show (s.cur.sum : Int) + (s.rle + (s.b1 + s.refAt s.pr - s.a0)) = s.b1 + s.refAt s.pr
    omega

theorem returnsRow_verticalMode (k : Int) : ReturnsRow .mode (verticalMode k) :=
  (keepsRowSum_vertical k).returnsRow_afterMode (by decide)

theorem returnsRow_eofb :
    ReturnsRow .mode (fun s => .ok (endScanNoLine { s.mark with lineno := s.height, mmrState := .done })) := by
  intro s t _ _ _ h
  cases h
  exact returnedRowOk_of_none rfl

theorem returnedRowOk_endRun {s t : State} (h : endRun s = .ok t) (hs : RowSum s) : ReturnedRowOk t := by
  unfold endRun at h
  split at h
  all_goals
    obtain ⟨u, hu, ht⟩ := try_bind_eq_ok.mp h
    obtain ⟨hs', rfl⟩ := rowSum_emitPending hs hu
  case h_1 =>
    cases ht
    exact hs'.returnedRowOk
  case h_2 => exact returnedRowOk_afterMode ht hs'

theorem returnsRow_addRun (v : Nat) {p : Position} (hp : p ≠ .idle ∧ p ≠ .zpWait) : ReturnsRow p (addRun v) := by
  refine .of_rowSum hp fun s t hs h => ?_
  obtain ⟨-, rfl | hend⟩ := addRun_eq_ok h
  · exact (rowSum_joined hs v).returnedRowOk
  · exact returnedRowOk_endRun hend (rowSum_joined hs v)

/-- An `Err` in the result port is no row. -/
theorem returnedRowOk_of_finishMmr {x : Try State} {t : State} (h : finishMmr x = .next t)
    (hok : ∀ u, x = .ok u → ReturnedRowOk u) : ReturnedRowOk t := by
  obtain hx | ⟨r, -, rfl⟩ := finishMmr_eq_next h
  · exact hok t hx
  · exact returnedRowOk_of_none rfl

theorem returnedRowOk_modeCodeword {len : Nat} {body close : State → Try State} {s t : State} (hs : RowOk s)
    (hret : ReturnedRowOk s) (hbody : ReturnsRow .mode body) (hclose : ReturnsRow .trailing close)
    (h : modeCodeword len body close s = .next t) : ReturnedRowOk t := by
  unfold modeCodeword at h
  split at h
  next hp => exact returnedRowOk_of_finishMmr h fun u => hbody.takeCodeword len s u hp hs hret
  next hp => exact returnedRowOk_of_finishMmr h fun u => hclose.takeCodeword len s u hp hs hret
  next => cases h

theorem returnedRowOk_vertical {k : Int} {len : Nat} {s t : State} (hs : RowOk s) (hret : ReturnedRowOk s)
    (h : modeCodeword len (verticalMode k) rejectTrailing s = .next t) : ReturnedRowOk t :=
  returnedRowOk_modeCodeword hs hret (returnsRow_verticalMode k) returnsRow_rejectTrailing h

theorem returnedRowOk_codewordAt {p : Position} {body : State → Try State} {s t : State} (hs : RowOk s)
    (hret : ReturnedRowOk s) (hbody : ReturnsRow p body) (h : codewordAt p body s = .next t) : ReturnedRowOk t := by
  unfold codewordAt at h
  split at h
  next hp => exact returnedRowOk_of_finishMmr h fun u => hbody s u hp hs hret
  next => cases h

/-- A run codeword is read in one of the two runs of Horizontal mode. -/
theorem returnedRowOk_runCodeword {c : Colour} {v len : Nat} {s t : State} (hs : RowOk s) (hret : ReturnedRowOk s)
    (h : runCodeword c v len s = .next t) : ReturnedRowOk t := by
  unfold runCodeword at h
  split at h
  next hc =>
    have hpos : s.pos ≠ .idle ∧ s.pos ≠ .zpWait := by
      constructor <;> (intro hp; simp [State.runColour, hp] at hc)
    exact returnedRowOk_of_finishMmr h fun u => (returnsRow_addRun v hpos).takeCodeword len s u rfl hs hret
  next => cases h

/-- Every codeword leaves in the result port a row of W pixels or none. -/
theorem exec_codeword_returnedRowOk {i : Instr} {book : Book} {code len : Nat} (hi : encode i = .codeword book code len)
    {s t : State} (hs : RowOk s) (hret : ReturnedRowOk s) (h : exec i s = .next t) : ReturnedRowOk t := by
  have hliteral (k : Nat) : ReturnsRow .unc (uLiteral k) := (keepsRowSum_uLiteral k).returnsRow (by decide)
  cases i
  case mmrInit | mmrScanruns | mmrScanrle | jb2Direct | jb2Cross | ctxInit | writeCtrl | readReg | reserved => nomatch hi
  case p => exact returnedRowOk_modeCodeword hs hret returnsRow_pass returnsRow_rejectTrailing h
  case h => exact returnedRowOk_modeCodeword hs hret (returnsRow_pos .mode .run1) returnsRow_rejectTrailing h
  case v0 => exact returnedRowOk_modeCodeword hs hret (returnsRow_verticalMode 0) returnsRow_closeTrailing h
  case vr1 => exact returnedRowOk_vertical (k := 1) hs hret h
  case vr2 => exact returnedRowOk_vertical (k := 2) hs hret h
  case vr3 => exact returnedRowOk_vertical (k := 3) hs hret h
  case vl1 => exact returnedRowOk_vertical (k := -1) hs hret h
  case vl2 => exact returnedRowOk_vertical (k := -2) hs hret h
  case vl3 => exact returnedRowOk_vertical (k := -3) hs hret h
  case eofb => exact returnedRowOk_codewordAt hs hret returnsRow_eofb h
  case unc => exact returnedRowOk_codewordAt hs hret ((returnsRow_pos .mode .unc).takeCodeword 10) h
  case u1 => exact returnedRowOk_codewordAt hs hret (hliteral 0) h
  case u01 => exact returnedRowOk_codewordAt hs hret (hliteral 1) h
  case u001 => exact returnedRowOk_codewordAt hs hret (hliteral 2) h
  case u0001 => exact returnedRowOk_codewordAt hs hret (hliteral 3) h
  case u00001 => exact returnedRowOk_codewordAt hs hret (hliteral 4) h
  case u00000 =>
    have hwhites : KeepsRowSum (fun s => takeCodeword 6 s >>= fun s => uWhites 5 s >>= uCheck) :=
      (keepsRowSum_takeCodeword 6).bind ((keepsRowSum_uWhites 5).bind keepsRowSum_uCheck)
    exact returnedRowOk_codewordAt hs hret (hwhites.returnsRow (by decide)) h
  case ux c =>
    have hexit := (keepsRowSum_exitFixup c).returnsRow_afterMode (p := .unc) (by decide)
    exact returnedRowOk_codewordAt hs hret (hexit.takeCodeword 8) h
  all_goals exact returnedRowOk_runCodeword hs hret h

/-! ## Commands return no row -/

theorem returnedRowOk_initMmr {bytes : List Byte} {s t : State} (h : initMmr bytes s = .ok t) : ReturnedRowOk t := by
  obtain ⟨u, -, h⟩ := try_bind_eq_ok.mp h
  dsimp only at h
  split at h
  · obtain ⟨v, -, h⟩ := try_bind_eq_ok.mp h
    cases h
    exact returnedRowOk_of_none rfl
  · cases h
    exact returnedRowOk_of_none rfl

/-- The result port is empty when the row starts, and the row has no pixel (spec 40_mmr_modes.md R151). -/
theorem returnedRowOk_startRow {k : ScanKind} {s t : State} (h : startRow k s = .ok t) : ReturnedRowOk t := by
  have hrow {u : State} (hu : rowLoop (rowStart { u with scan := k, result := none }) = .ok t) : ReturnedRowOk t :=
    returnedRowOk_rowLoop hu ⟨⟨Int.le_refl 0, rfl⟩, returnedRowOk_of_none rfl⟩
  unfold startRow at h
  dsimp only at h
  split at h
  · obtain ⟨u, -, hu⟩ := try_bind_eq_ok.mp h
    exact hrow hu
  · exact hrow h

theorem returnedRowOk_startScan {k : ScanKind} {s t : State} (h : startScan k s = .next t) : ReturnedRowOk t := by
  unfold startScan at h
  split at h
  case h_4 => exact returnedRowOk_of_finishMmr h fun u => returnedRowOk_startRow
  all_goals
    cases h
    exact returnedRowOk_of_none rfl

theorem returnedRowOk_jb2Command (zp : Zp) (bank : Bank) (dw dh : Word) (prepare : State → State) (s : State) :
    ReturnedRowOk (jb2Command zp bank dw dh prepare s) := by
  refine returnedRowOk_of_none ?_
  unfold jb2Command
  split
  · rfl
  split
  · rfl
  · split <;> rfl

/-! ## The step -/

theorem exec_returnedRowOk {i : Instr} {s t : State} (hs : RowOk s) (hret : ReturnedRowOk s) (h : exec i s = .next t) :
    ReturnedRowOk t := by
  cases he : encode i with
  | codeword book code len => exact exec_codeword_returnedRowOk he hs hret h
  | command c =>
    cases i
    case mmrInit bytes =>
      obtain ⟨-, hbody⟩ := commandAt_eq_next (show execMmrInit bytes s = .next t from h)
      exact returnedRowOk_of_finishMmr hbody fun u => returnedRowOk_initMmr
    case mmrScanruns => exact returnedRowOk_startScan (commandAt_eq_next h).2
    case mmrScanrle => exact returnedRowOk_startScan (commandAt_eq_next h).2
    case jb2Direct dw dh => exact (exec_jb2Direct h).2 ▸ returnedRowOk_jb2Command _ _ _ _ _ _
    case jb2Cross dw dh mb box => exact (exec_jb2Cross h).2 ▸ returnedRowOk_jb2Command _ _ _ _ _ _
    case ctxInit =>
      obtain ⟨-, hbody⟩ := commandAt_eq_next (show execCtxInit s = .next t from h)
      cases hbody
      exact returnedRowOk_of_none rfl
    case writeCtrl v => exact exec_writeCtrl h ▸ returnedRowOk_of_none rfl
    case readReg n =>
      obtain ⟨-, hbody⟩ := commandAt_eq_next (show execReadReg n s = .next t from h)
      split at hbody <;> (cases hbody; exact returnedRowOk_of_none rfl)
    case reserved opcode => exact exec_reserved h ▸ returnedRowOk_of_none rfl
    all_goals nomatch he

/-- Settles O46: only the end of a row puts runs into the result port, and there they sum to W. -/
theorem returnedRowsSumToWidth : Obligations.ReturnedRowsSumToWidth := by
  intro s t hs hret h
  unfold step at h
  split at h
  · cases h
    exact hret
  · cases h
    exact returnedRowOk_of_none rfl
  · cases h
    exact hret
  · next src hf =>
    cases src with
    | command c =>
      split at h
      · exact exec_returnedRowOk (s := s.accept) hs (returnedRowOk_of_none rfl) h
      · cases h
    | window books w =>
      split at h
      · exact exec_returnedRowOk hs hret h
      · rw [show undecoded _ s (.window books w) = lookupFailed s from rfl, lookupFailed_eq] at h
        cases h
        exact returnedRowOk_of_none rfl

end Sys2Proof.Machine

/-! # MMR_INIT on a good chunk -/

namespace Sys2Proof.Machine

/-! ## The header -/

/-- Where the rest of S stands after bytes that are there. -/
theorem drop_after_bytes {s : State} {a l : List Byte} (h : s.stream.drop s.sp.toNat = a ++ l)
    (hl : s.stream.length < 4294967296) : s.stream.drop (s.sp + BitVec.ofNat 32 a.length).toNat = l := by
  have hlen := congrArg List.length h
  rw [List.length_drop, List.length_append] at hlen
  by_cases ha : a.length = 0
  · obtain rfl := List.length_eq_zero_iff.mp ha
    simpa using h
  · rw [sp_add (by omega) hl, ← List.drop_drop, h, List.drop_left]

/-- The first four bytes of a striped header as one word (spec 30_encoding.md R116). -/
def stripedMagic (inv : Bool) : BitVec 32 := 0x4d#8 ++ 0x4d#8 ++ 0x52#8 ++ BitVec.ofNat 8 (inv.toNat + 2)

theorem stripedMagic_masked (inv : Bool) : stripedMagic inv &&& 0xfffffffc = 0x4d4d5200 := by
  cases inv <;> decide

theorem stripedMagic_flags (inv : Bool) : (stripedMagic inv).setWidth 2 = if inv then 3 else 2 := by
  cases inv <;> decide

/-- The flags of a striped header have STRIPED set (spec 10_state.md R23). -/
theorem stripedFlags_striped (inv : Bool) : (if inv then 3 else 2 : BitVec 2).getLsbD 1 = true := by
  cases inv <;> decide

/-- The striped header: its fields go to the registers (spec 42_mmr_commands.md R211). -/
theorem parseHeader_striped {s : State} {w h r : BitVec 16} {inv : Bool} {l : List Byte}
    (hs : s.stream.drop s.sp.toNat = headerBytes w h inv (some r) ++ l) (hl : s.stream.length < 4294967296) (hw : w ≠ 0)
    (hh : h ≠ 0) (hr : r ≠ 0) :
    parseHeader s =
      .ok { s with sp := s.sp + 10, flags := if inv then 3 else 2, width := w, height := h, rps := r } := by
  have hwh : ¬ (w = 0 ∨ h = 0) := fun e => e.elim hw hh
  have hsplit : s.stream.drop s.sp.toNat =
      0x4d :: 0x4d :: 0x52 :: BitVec.ofNat 8 (inv.toNat + 2) :: (be16 w ++ (be16 h ++ (be16 r ++ l))) := by
    rw [hs]
    simp [headerBytes]
  have hd4 : s.stream.drop (s.sp + 4).toNat = be16 w ++ (be16 h ++ (be16 r ++ l)) :=
    drop_after_bytes (a := [_, _, _, _]) hsplit hl
  have hd6 : s.stream.drop (s.sp + 4 + 2).toNat = be16 h ++ (be16 r ++ l) :=
    drop_after_bytes (s := { s with sp := s.sp + 4 }) hd4 hl
  have hd8 : s.stream.drop (s.sp + 4 + 2 + 2).toNat = be16 r ++ l :=
    drop_after_bytes (s := { s with sp := s.sp + 4 + 2 }) hd6 hl
  have hsp : s.sp + 4 + 2 + 2 + 2 = s.sp + 10 := by
    rw [BitVec.add_assoc, BitVec.add_assoc, BitVec.add_assoc]
    rfl
  have hread : read32 s = .ok (stripedMagic inv, { s with sp := s.sp + 4 }) := read32_ok hsplit hl
  have hflag := stripedMagic_flags inv
  have hstriped := stripedFlags_striped inv
  generalize (if inv then 3 else 2 : BitVec 2) = f at hflag hstriped
  have hr1 := read16_field (s := { s with sp := s.sp + 4, flags := f }) hd4 hl
  have hr2 := read16_field (s := { s with sp := s.sp + 4 + 2, flags := f, width := w }) hd6 hl
  have hr3 := read16_field (s := { s with sp := s.sp + 4 + 2 + 2, flags := f, width := w, height := h }) hd8 hl
  simp only [parseHeader, hread, try_ok_bind, stripedMagic_masked, hflag, ne_eq, not_true_eq_false, if_false, hr1, hr2,
    if_neg hwh, State.striped, hstriped, if_true, hr3, if_neg hr, try_pure, hsp]

/-! ## The chunk -/

/-- Between commands MMR_INIT runs `initMmr`. -/
theorem exec_mmrInit {s : State} (hp : s.pos = .idle) (bytes : List Byte) :
    exec (.mmrInit bytes) s = finishMmr (initMmr bytes s) :=
  show execMmrInit bytes s = _ from commandAt_idle hp _

/-- A non-striped chunk: what follows the header is the data (spec 42_mmr_commands.md R210, R212). -/
theorem initMmr_plain {bytes : List Byte} {s u : State} (hu : parseHeader (initStream bytes s) = .ok u)
    (hf : u.striped = false) :
    initMmr bytes s = .ok (State.reply (.ok .unit)
      { whiteReference (enterWholeData u) with mmrState := .active }).freeRow := by
  rw [initMmr, hu]
  simp only [try_ok_bind, hf, Bool.false_eq_true, if_false, try_pure]

/-- A striped chunk: the first stripe is entered (spec 42_mmr_commands.md R210, R213). -/
theorem initMmr_striped {bytes : List Byte} {s u v : State} (hu : parseHeader (initStream bytes s) = .ok u)
    (hf : u.striped = true) (hv : readStripe u = .ok v) :
    initMmr bytes s = .ok (State.reply (.ok .unit)
      { whiteReference { v with stripeno := 0 } with mmrState := .active }).freeRow := by
  rw [initMmr, hu]
  simp only [try_ok_bind, hf, if_true, enterFirstStripe, hv, try_pure]

/-- Settles O12: the header, then the whole rest of S. -/
theorem mmrInitPlainChunk : Obligations.MmrInitPlainChunk := by
  intro s w h inv data hp hw hh hlen
  have hsize : (headerBytes w h inv none ++ data).length = 8 + data.length := by
    rw [List.length_append]
    rfl
  have hparse := parseHeader_plain (s := initStream (headerBytes w h inv none ++ data) s) rfl (hsize ▸ hlen) hw hh
  have hplain : (if inv then 1#2 else 0#2).getLsbD 1 = false := by cases inv <;> decide
  rw [exec_mmrInit hp, initMmr_plain hparse hplain, ← hsize]
  rfl

/-- Settles O13: the header, then the first stripe's entry. -/
theorem mmrInitStripedChunk : Obligations.MmrInitStripedChunk := by
  intro s w h r inv len rest hp hw hh hr hlen
  have hsize : (headerBytes w h inv (some r) ++ be32 len ++ rest).length = 14 + rest.length := by
    rw [List.length_append]
    rfl
  have hlen' : (headerBytes w h inv (some r) ++ be32 len ++ rest).length < 4294967296 := hsize ▸ hlen
  have hparse := parseHeader_striped (s := initStream (headerBytes w h inv (some r) ++ be32 len ++ rest) s)
    (List.append_assoc _ _ _) hlen' hw hh hr
  rw [exec_mmrInit hp, initMmr_striped hparse (stripedFlags_striped inv) (readStripe_ok (len := len) (l := rest) rfl hlen')]
  rfl

end Sys2Proof.Machine

/-! # The all-white row -/

namespace Sys2Proof.Machine

/-! ## The two steps -/

/-- A command that the host has issued runs once it is accepted (spec 46_control.md R294). -/
theorem step_command {s : State} {c : Command} {rest : List HostEvent} {i : Instr} (hp : s.pos = .idle)
    (hin : s.inbox = .command c :: rest) (hd : decode (.command c) = .ok i) : step s = exec i s.accept := by
  have hf : fetch s = .source (.command c) := by simp [fetch, State.books, hp, hin]
  rw [step, hf]
  simp only [hd]
  rfl

/-- A codeword that starts the window runs where its book is read (spec 30_encoding.md R115). -/
theorem step_codeword {s : State} {i : Instr} {book : Book} {code len : Nat} (hi : encode i = .codeword book code len)
    (hb : s.books = some book.position) (hw : topBits len s.window = code) : step s = exec i s := by
  rw [step, fetch_of_books hb]
  simp only [decode_window_encode hi hw]
  rfl

/-- A bit that reads 1 is a bit of the data (spec 20_memory.md R64). -/
theorem hasBits_one_of_streamBit {s : State} (h : streamBit s.sdata s.bitpos.toNat = 1) : HasBits s 1 := by
  refine Nat.lt_of_not_le fun hpast => ?_
  rw [streamBit_past hpast] at h
  cases h

/-- The first bit of the window. -/
theorem topBits_one_window (s : State) : topBits 1 s.window = streamBit s.sdata s.bitpos.toNat := by
  rw [topBits_window (by decide), peekFrom, peekFrom]
  exact Nat.zero_add _

/-- The runs of the white row as MMR_SCANRUNS returns it: an empty white run in front when inverted
(spec 42_mmr_commands.md R217). -/
theorem rowPayload_white {s : State} (hs : s.scan = .runs) {w : Nat} (hw : 0 < w) :
    rowPayload s [w] = .runs (if s.flags.getLsbD 0 then [0, w] else [w]) := by
  simp only [rowPayload, hs, invertRuns_of_pos hw]

/-- A scan of kind k has started its row (spec 42_mmr_commands.md R215, 40_mmr_modes.md R151). -/
def State.scanStarted (k : ScanKind) (s : State) : State :=
  { rowStart { beginOutput k s with scan := k, result := none } with pos := .mode }

/-- MMR_SCANRUNS, issued by the host away from a stripe boundary, starts a row. -/
theorem step_mmrScanruns {s : State} {rest : List HostEvent} (hp : s.pos = .idle)
    (hin : s.inbox = .command ⟨0x02, .none⟩ :: rest) (ha : s.mmrState = .active) (hw : 0 < s.width.toNat)
    (hb : s.flags.getLsbD 1 = true → s.striplineno ≠ s.rps) : step s = .next (s.accept.scanStarted .runs) := by
  have hdecode : decode (.command ⟨0x02, .none⟩) = .ok .mmrScanruns := decode_command_encode (i := .mmrScanruns) rfl rfl
  have hexec : exec .mmrScanruns s.accept = startScan .runs s.accept :=
    exec_scan (e := (.mmrScanruns, .runs)) List.mem_cons_self hp
  have hinside : ¬ (s.striped ∧ s.striplineno = s.rps) := fun ⟨hf, hl⟩ => hb hf hl
  rw [step_command hp hin hdecode, hexec, startScan_row (s := s.accept) ha hw hinside]
  rfl

/-- A bit 1 at the start of a row whose reference line is white is V0, which takes the row's one run to W
(spec 40_mmr_modes.md R156). -/
theorem step_v0_white {s : State} (hp : s.pos = .mode) (hbit : streamBit s.sdata s.bitpos.toNat = 1) (hcur : s.cur = [])
    (hrle : s.rle = 0) (ha : s.a0 = 0) (hb1 : s.b1 = s.width.toNat) :
    step s = .next (rowReturned { s with bitpos := s.after 1 } [s.width.toNat]) := by
  have hbooks : s.books = some (Book.position .mode) := by
    simp only [State.books, hp]
    rfl
  have hrun : verticalRun s 0 = s.width.toNat := by
    rw [verticalRun]
    omega
  have hroom : s.cur.length < s.width.toNat + 2 := by
    rw [hcur]
    exact Nat.zero_lt_succ _
  have hexec := verticalEndsRow (.v0, 0, 1) List.mem_cons_self s hp (hasBits_one_of_streamBit hbit) hroom
    (hrun ▸ Int.natCast_nonneg _) ((Int.add_zero _).trans hb1)
  rw [hrun, hcur] at hexec
  exact (step_codeword (i := .v0) rfl hbooks ((topBits_one_window s).trans hbit)).trans hexec

/-- Settles O19: the scan starts the row, and V0 takes its run to W. -/
theorem allWhiteRowTakesOneBit : Obligations.AllWhiteRowTakesOneBit := by
  intro s rest hp hin ha hw href hstripe hbit
  have hb1 : (s.accept.scanStarted .runs).b1 = (s.accept.scanStarted .runs).width.toNat := by
    simp [State.scanStarted, State.refAt, href]
  have hbit' : streamBit (s.accept.scanStarted .runs).sdata (s.accept.scanStarted .runs).bitpos.toNat = 1 := by
    simpa [State.scanStarted] using hbit
  have hv0 := step_v0_white (s := s.accept.scanStarted .runs) rfl hbit' rfl rfl rfl hb1
  refine ⟨_, _, step_mmrScanruns hp hin ha hw hstripe, hv0, ?_⟩
  simp [State.scanStarted, rowPayload_white, hin, ha, hw]

end Sys2Proof.Machine

/-! # The JB2 loop: rolled contexts are full ones, and one request for each pixel -/

namespace Sys2Proof.Machine

/-! ## Context words, bit by bit -/

/-- Rolling moves each pixel of the context one bit to the left (spec 44_jb2_direct.md R243, 45_jb2_cross.md R268). -/
theorem ctxBit_shiftLeft (v : Bool) (i : Nat) : ctxBit v i <<< 1 = ctxBit v (i + 1) :=
  (BitVec.shiftLeft_add _ i 1).symm

theorem ctxBit_and (v : Bool) (i : Nat) (mask : BitVec 11) :
    ctxBit v i &&& mask = if mask.getLsbD i then ctxBit v i else 0#11 := by
  cases v
  · simp [ctxBit]
  · have htwo : ctxBit true i = BitVec.twoPow 11 i := (BitVec.twoPow_eq 11 i).symm
    rw [htwo, BitVec.and_comm, BitVec.and_twoPow]

/-- What the roll's mask leaves of a pixel of the context before (spec 44_jb2_direct.md R243, 45_jb2_cross.md R268). -/
theorem ctxBit_roll (v : Bool) (i : Nat) (mask : BitVec 11) :
    (ctxBit v i <<< 1) &&& mask = if mask.getLsbD (i + 1) then ctxBit v (i + 1) else 0#11 := by
  rw [ctxBit_shiftLeft, ctxBit_and]

/-- The rolled direct context is the full one (spec 44_jb2_direct.md R243). -/
theorem rollDirect_directCtx (tb : Bitmap) (x y : Int) :
    rollDirect tb (directCtx tb (x - 1) y) x y (pix tb (x - 1) y) = directCtx tb x y := by
  have hleft : x - 1 - 1 = x - 2 := by omega
  have hright : x - 1 + 2 = x + 1 := by omega
  simp only [rollDirect, directCtx, BitVec.shiftLeft_or_distrib, BitVec.and_or_distrib_right, ctxBit_roll, hleft, hright,
    Int.sub_add_cancel, Nat.reduceAdd, BitVec.reduceGetLsb, Bool.false_eq_true, ↓reduceIte, BitVec.zero_or, BitVec.or_zero]
  ac_rfl

/-- The rolled cross context is the full one; the model's column moves with the target's (spec 45_jb2_cross.md R268). -/
theorem rollCross_crossCtx (tb mb : Bitmap) (x y mx my : Int) :
    rollCross tb mb (crossCtx tb mb (x - 1) y (mx - 1) my) x y mx my (pix tb (x - 1) y) = crossCtx tb mb x y mx my := by
  simp only [rollCross, crossCtx, BitVec.shiftLeft_or_distrib, BitVec.and_or_distrib_right, ctxBit_roll,
    Int.sub_add_cancel, Nat.reduceAdd, BitVec.reduceGetLsb, Bool.false_eq_true, ↓reduceIte, BitVec.zero_or, BitVec.or_zero]
  ac_rfl

/-- Settles O48: the shift takes each pixel to its bit of the next word, and the mask drops those that leave the template. -/
theorem rolledContextIsFullContext : Obligations.RolledContextIsFullContext :=
  fun tb mb x y mx my => ⟨rollDirect_directCtx tb x y, rollCross_crossCtx tb mb x y mx my⟩

/-! ## One pixel of the loop -/

/-- The pixel (X, Y) is set and X is at the next column (spec 44_jb2_direct.md R244, 45_jb2_cross.md R270). -/
def State.pixelSet (n : Bool) (s : State) : State := { s with tb := setPix s.tb s.x s.y n, x := s.x + 1 }

@[simp] theorem State.pixelSet_tb (n : Bool) (s : State) : (s.pixelSet n).tb = setPix s.tb s.x s.y n := rfl
@[simp] theorem State.pixelSet_x (n : Bool) (s : State) : (s.pixelSet n).x = s.x + 1 := rfl

/-- CTX is rolled to the pixel (X, Y) where that is a pixel of the row (spec 44_jb2_direct.md R244, 45_jb2_cross.md R270). -/
def State.ctxRolled (bank : Bank) (n : Bool) (s : State) : State :=
  { s with ctx := if s.x < s.tb.w.toNat then s.rolledCtx n bank else s.ctx }

/-- Inside the row CTX is the rolled context. -/
theorem State.ctxRolled_within {bank : Bank} {n : Bool} {s : State} (h : s.x < s.tb.w.toNat) :
    s.ctxRolled bank n = { s with ctx := s.rolledCtx n bank } := by
  rw [ctxRolled, if_pos h]

/-- Where the inner loop's turn goes on, ZP has answered with a bit, the pixel is set and CTX rolled. -/
theorem decodePixel_eq_ok {zp : Zp} {bank : Bank} {s t : State} (h : decodePixel zp bank s = .ok t) :
    ∃ n z cell, t = ((zpAnswered bank z cell s).pixelSet n).ctxRolled bank n := by
  unfold decodePixel at h
  split at h
  · cases h
  · cases h
  · next n u hu =>
    obtain ⟨z, cell, -, rfl⟩ := zpRequest_eq_some hu
    exact ⟨n, z, cell, (Except.ok.inj h).symm⟩

/-- The full context is not a function of CTX. -/
theorem fullCtx_ctx (bank : Bank) (s : State) (c : BitVec 11) : State.fullCtx { s with ctx := c } bank = s.fullCtx bank := by
  cases bank <;> rfl

/-- A pixel is no part of its own direct context (spec 44_jb2_direct.md R242). -/
theorem directCtx_setPix (tb : Bitmap) (x y : Int) (n : Bool) : directCtx (setPix tb x y n) x y = directCtx tb x y := by
  simp (disch := omega) only [directCtx, pix_setPix_other]

/-- A pixel is no part of its own cross context (spec 45_jb2_cross.md R267). -/
theorem crossCtx_setPix (tb mb : Bitmap) (x y mx my : Int) (n : Bool) :
    crossCtx (setPix tb x y n) mb x y mx my = crossCtx tb mb x y mx my := by
  simp (disch := omega) only [crossCtx, pix_setPix_other]

/-- The full context is the same before ZP's answer and after it. -/
theorem fullCtx_zpAnswered (bank b : Bank) (z cell : Nat) (s : State) :
    (zpAnswered bank z cell s).fullCtx b = s.fullCtx b := by
  cases b <;> simp [State.fullCtx, State.modelBitmap]

/-- From a full context at a pixel of TB, the roll gives the full context of the pixel on its right
(spec 44_jb2_direct.md R243, 45_jb2_cross.md R268). -/
theorem rolledCtx_pixelSet {s : State} {bank : Bank} (hwf : s.tb.wf = true) (hin : inBitmap s.tb s.x s.y)
    (hctx : s.ctx = s.fullCtx bank) (n : Bool) : (s.pixelSet n).rolledCtx n bank = (s.pixelSet n).fullCtx bank := by
  have hleft : s.x + 1 - 1 = s.x := Int.add_sub_cancel _ _
  have hpix := pix_setPix_same hwf hin n
  cases bank
  · have hroll := rollDirect_directCtx (setPix s.tb s.x s.y n) (s.x + 1) s.y
    rw [hleft, hpix, directCtx_setPix] at hroll
    rw [State.fullCtx] at hctx
    rw [← hctx] at hroll
    exact hroll
  · have hmodel : s.x + 1 + s.xd2c - 1 = s.x + s.xd2c := by omega
    have hroll := rollCross_crossCtx (setPix s.tb s.x s.y n) s.modelBitmap (s.x + 1) s.y (s.x + 1 + s.xd2c) (s.y + s.yd2c)
    rw [hleft, hmodel, hpix, crossCtx_setPix] at hroll
    rw [State.fullCtx] at hctx
    rw [← hctx] at hroll
    exact hroll

/-! ## What the loop keeps of TB -/

/-- TB has the same size, and is still well formed. -/
structure TargetKeeps (s t : State) : Prop where
  w : t.tb.w = s.tb.w
  h : t.tb.h = s.tb.h
  wf : s.tb.wf = true → t.tb.wf = true

theorem TargetKeeps.trans {s t u : State} (hst : TargetKeeps s t) (htu : TargetKeeps t u) : TargetKeeps s u where
  w := htu.w.trans hst.w
  h := htu.h.trans hst.h
  wf := htu.wf ∘ hst.wf

/-- A sequence in the loop ends only if its first part does and the rest ends from there. -/
theorem loop_bind_eq_ok {x : Except ZpStop State} {f : State → Except ZpStop State} {t : State} :
    (x >>= f) = .ok t ↔ ∃ u, x = .ok u ∧ f u = .ok t := by
  cases x <;> simp [bind, Except.bind]

theorem targetKeeps_decodePixel {zp : Zp} {bank : Bank} {s t : State} (h : decodePixel zp bank s = .ok t) :
    TargetKeeps s t ∧ t.y = s.y := by
  obtain ⟨hw, hh, hwf, -, -, -, hy⟩ := decodePixel_keeps (.inl h)
  exact ⟨⟨hw, hh, hwf⟩, hy⟩

theorem targetKeeps_decodeColumns {zp : Zp} {bank : Bank} {n : Nat} {s t : State}
    (h : decodeColumns zp bank n s = .ok t) : TargetKeeps s t ∧ t.y = s.y := by
  induction n generalizing s with
  | zero =>
    cases h
    exact ⟨⟨rfl, rfl, id⟩, rfl⟩
  | succ n ih =>
    obtain ⟨u, hu, ht⟩ := loop_bind_eq_ok.mp h
    obtain ⟨hpixel, hypixel⟩ := targetKeeps_decodePixel hu
    obtain ⟨hrest, hyrest⟩ := ih ht
    exact ⟨hpixel.trans hrest, hyrest.trans hypixel⟩

/-- The start of a row: X is 0 and CTX the full context of its first pixel (spec 44_jb2_direct.md R244). -/
def State.rowBegun (bank : Bank) (s : State) : State := { s with x := 0, ctx := State.fullCtx { s with x := 0 } bank }

/-- A row is the columns from its start on, and then the next row's Y. -/
theorem decodeRow_eq (zp : Zp) (bank : Bank) (s : State) :
    decodeRow zp bank s =
      decodeColumns zp bank s.tb.w.toNat (s.rowBegun bank) >>= fun t => .ok { t with y := t.y - 1 } := rfl

/-! ## Outcomes that differ in CTX at most -/

/-- The loop's rest has the same outcome, but for CTX, from every CTX. -/
def CtxBlind (f : State → Except ZpStop State) : Prop := ∀ s c, withoutCtx (f { s with ctx := c }) = withoutCtx (f s)

/-- Sequences agree but for CTX where their first parts do, and their rests from the state that the one on the left reaches. -/
theorem withoutCtx_bind {x y : Except ZpStop State} {f g : State → Except ZpStop State}
    (hxy : withoutCtx x = withoutCtx y) (hfg : ∀ s, x = .ok s → withoutCtx (f s) = withoutCtx (g s)) (hg : CtxBlind g) :
    withoutCtx (x >>= f) = withoutCtx (y >>= g) := by
  cases x with
  | error e =>
    cases y with
    | error e' => exact hxy
    | ok t => cases hxy
  | ok s =>
    cases y with
    | error e' => cases hxy
    | ok t =>
      have ht : { s with ctx := t.ctx } = t :=
        congrArg (fun u : State => { u with ctx := t.ctx }) (Except.ok.inj hxy)
      calc
        withoutCtx (f s) = withoutCtx (g s) := hfg s rfl
        _ = withoutCtx (g { s with ctx := t.ctx }) := (hg s t.ctx).symm
        _ = withoutCtx (g t) := by rw [ht]

/-- The fresh loop reads no CTX. -/
theorem freshPixel_ctx (zp : Zp) (bank : Bank) (s : State) (c : BitVec 11) :
    freshPixel zp bank { s with ctx := c } = freshPixel zp bank s := by
  simp only [freshPixel, fullCtx_ctx]

theorem ctxBlind_freshColumns (zp : Zp) (bank : Bank) (n : Nat) : CtxBlind (freshColumns zp bank n) := by
  intro s c
  cases n with
  | zero => rfl
  | succ n => simp only [freshColumns, freshPixel_ctx]

theorem ctxBlind_freshRows (zp : Zp) (bank : Bank) (n : Nat) : CtxBlind (freshRows zp bank n) := by
  induction n with
  | zero => exact fun _ _ => rfl
  | succ n ih =>
    intro s c
    exact withoutCtx_bind (ctxBlind_freshColumns zp bank _ { s with x := 0 } c) (fun _ _ => rfl)
      fun t c => ih { t with y := t.y - 1 } c

/-! ## The rolled loop is the fresh loop -/

/-- n columns are left of a row of TB, and CTX is the full context of the next one. -/
structure RowReady (bank : Bank) (n : Nat) (s : State) : Prop where
  wf : s.tb.wf = true
  x_nonneg : 0 ≤ s.x
  columns : s.x + n = s.tb.w.toNat
  y_nonneg : 0 ≤ s.y
  y_lt : s.y < s.tb.h.toNat
  ctx : 0 < n → s.ctx = s.fullCtx bank

/-- At a full context the two loops make the same request, and go on in the same way. -/
theorem decodePixel_fresh (zp : Zp) {bank : Bank} {s : State} (hctx : s.ctx = s.fullCtx bank) :
    withoutCtx (decodePixel zp bank s) = withoutCtx (freshPixel zp bank s) := by
  have hsame : { s with ctx := s.fullCtx bank } = s := by rw [← hctx]
  unfold decodePixel freshPixel
  rw [hsame]
  cases zpRequest zp bank s with
  | none => rfl
  | some answer =>
    obtain ⟨response, u⟩ := answer
    cases response <;> rfl

/-- One turn of the inner loop leaves one column less, at its full context. -/
theorem RowReady.of_decodePixel {zp : Zp} {bank : Bank} {n : Nat} {s t : State} (h : RowReady bank (n + 1) s)
    (ht : decodePixel zp bank s = .ok t) : RowReady bank n t := by
  obtain ⟨hkeeps, hy⟩ := targetKeeps_decodePixel ht
  have hx := h.x_nonneg
  have hcolumns : s.x + (n + 1) = s.tb.w.toNat := h.columns
  have hin : inBitmap s.tb s.x s.y := ⟨hx, by omega, h.y_nonneg, h.y_lt⟩
  obtain ⟨v, z, cell, rfl⟩ := decodePixel_eq_ok ht
  have hxt : (((zpAnswered bank z cell s).pixelSet v).ctxRolled bank v).x = s.x + 1 := by simp [State.ctxRolled]
  have hctx (hn : 0 < n) : (((zpAnswered bank z cell s).pixelSet v).ctxRolled bank v).ctx =
      (((zpAnswered bank z cell s).pixelSet v).ctxRolled bank v).fullCtx bank := by
    have hwithin : ((zpAnswered bank z cell s).pixelSet v).x < ((zpAnswered bank z cell s).pixelSet v).tb.w.toNat := by
      simp only [State.pixelSet_x, State.pixelSet_tb, zpAnswered_x, zpAnswered_tb, setPix_w]
      omega
    rw [State.ctxRolled_within hwithin, fullCtx_ctx]
    exact rolledCtx_pixelSet (by simpa using h.wf) (by simpa using hin)
      (by simpa [fullCtx_zpAnswered] using h.ctx n.succ_pos) v
  exact {
    wf := hkeeps.wf h.wf
    x_nonneg := by omega
    columns := by rw [hkeeps.w]; omega
    y_nonneg := hy ▸ h.y_nonneg
    y_lt := by rw [hkeeps.h, hy]; exact h.y_lt
    ctx := hctx }

/-- Along a row the two loops make the same requests. -/
theorem decodeColumns_fresh (zp : Zp) {bank : Bank} {n : Nat} {s : State} (h : RowReady bank n s) :
    withoutCtx (decodeColumns zp bank n s) = withoutCtx (freshColumns zp bank n s) := by
  induction n generalizing s with
  | zero => rfl
  | succ n ih =>
    exact withoutCtx_bind (decodePixel_fresh zp (h.ctx n.succ_pos)) (fun _ ht => ih (h.of_decodePixel ht))
      (ctxBlind_freshColumns zp bank n)

/-- The start of a row on TB has all its columns left. -/
theorem rowReady_rowBegun {s : State} (hwf : s.tb.wf = true) (hy : 0 ≤ s.y) (hh : s.y < s.tb.h.toNat) (bank : Bank) :
    RowReady bank s.tb.w.toNat (s.rowBegun bank) where
  wf := hwf
  x_nonneg := Int.le_refl 0
  columns := Int.zero_add _
  y_nonneg := hy
  y_lt := hh
  ctx _ := (fullCtx_ctx bank { s with x := 0 } _).symm

/-- The columns of a row from its start on, rolled or afresh. -/
theorem rowColumns_fresh (zp : Zp) (bank : Bank) {s : State} (hwf : s.tb.wf = true) (hy : 0 ≤ s.y)
    (hh : s.y < s.tb.h.toNat) :
    withoutCtx (decodeColumns zp bank s.tb.w.toNat (s.rowBegun bank)) =
      withoutCtx (freshColumns zp bank s.tb.w.toNat { s with x := 0 }) :=
  (decodeColumns_fresh zp (rowReady_rowBegun hwf hy hh bank)).trans (ctxBlind_freshColumns zp bank _ { s with x := 0 } _)

/-- From a row of TB down to row 0 the two loops agree but for CTX: each row starts at a full context. -/
theorem decodeRows_fresh (zp : Zp) (bank : Bank) {n : Nat} {s : State} (hwf : s.tb.wf = true) (hy : s.y + 1 = n)
    (hh : n ≤ s.tb.h.toNat) : withoutCtx (decodeRows zp bank n s) = withoutCtx (freshRows zp bank n s) := by
  induction n generalizing s with
  | zero => rfl
  | succ n ih =>
    have hrow : decodeRows zp bank (n + 1) s =
        decodeColumns zp bank s.tb.w.toNat (s.rowBegun bank) >>= fun t => decodeRows zp bank n { t with y := t.y - 1 } := by
      rw [decodeRows, decodeRow_eq]
      cases decodeColumns zp bank s.tb.w.toNat (s.rowBegun bank) <;> rfl
    rw [hrow]
    refine withoutCtx_bind (rowColumns_fresh zp bank hwf (by omega) (by omega)) (fun t ht => ?_)
      fun t c => ctxBlind_freshRows zp bank n { t with y := t.y - 1 } c
    obtain ⟨hkeeps, hyt⟩ := targetKeeps_decodeColumns ht
    have hnext : t.y - 1 + 1 = n := by
      have hyrow : t.y = s.y := hyt
      omega
    have hrows : n ≤ t.tb.h.toNat := by
      rw [hkeeps.h]
      exact Nat.le_of_succ_le hh
    exact ih (s := { t with y := t.y - 1 }) (hkeeps.wf hwf) hnext hrows

/-- Settles O49: row by row and column by column, each rolled context is the full one. -/
theorem rolledLoopIsFreshLoop : Obligations.RolledLoopIsFreshLoop :=
  fun zp bank dw dh _ => decodeRows_fresh zp bank (blankBitmap_wf dw dh) (Int.sub_add_cancel _ _) (Nat.le_refl _)

/-! ## One request for each pixel -/

section
variable (answer : Nat → Bank → BitVec 11 → Nat → Bool) (cell : Nat → Bank → BitVec 11 → Nat → Nat) (bank : Bank)

/-- The counting oracle answers the turn's one request. -/
theorem decodePixel_counts (s : State) :
    ∃ t, decodePixel (countingZp answer cell) bank s = .ok t ∧ t.zp = s.zp + 1 := ⟨_, rfl, rfl⟩

theorem decodeColumns_counts (n : Nat) (s : State) :
    ∃ t, decodeColumns (countingZp answer cell) bank n s = .ok t ∧ t.zp = s.zp + n := by
  induction n generalizing s with
  | zero => exact ⟨s, rfl, rfl⟩
  | succ n ih =>
    obtain ⟨u, hu, huzp⟩ := decodePixel_counts answer cell bank s
    obtain ⟨t, ht, htzp⟩ := ih u
    exact ⟨t, loop_bind_eq_ok.mpr ⟨u, hu, ht⟩, by omega⟩

theorem decodeRow_counts (s : State) :
    ∃ t, decodeRow (countingZp answer cell) bank s = .ok t ∧ t.zp = s.zp + s.tb.w.toNat ∧ TargetKeeps s t := by
  obtain ⟨u, hu, huzp⟩ := decodeColumns_counts answer cell bank s.tb.w.toNat (s.rowBegun bank)
  obtain ⟨⟨hw, hh, hwf⟩, -⟩ := targetKeeps_decodeColumns hu
  rw [decodeRow_eq]
  exact ⟨{ u with y := u.y - 1 }, loop_bind_eq_ok.mpr ⟨u, hu, rfl⟩, huzp, hw, hh, hwf⟩

theorem decodeRows_counts (n : Nat) (s : State) :
    ∃ t, decodeRows (countingZp answer cell) bank n s = .ok t ∧ t.zp = s.zp + s.tb.w.toNat * n ∧ TargetKeeps s t := by
  induction n generalizing s with
  | zero => exact ⟨s, rfl, rfl, rfl, rfl, id⟩
  | succ n ih =>
    obtain ⟨u, hu, huzp, hukeeps⟩ := decodeRow_counts answer cell bank s
    obtain ⟨t, ht, htzp, htkeeps⟩ := ih u
    refine ⟨t, loop_bind_eq_ok.mpr ⟨u, hu, ht⟩, ?_, hukeeps.trans htkeeps⟩
    rw [htzp, huzp, hukeeps.w, Nat.mul_succ]
    omega

end

/-- Settles O50: each row issues a request for each column, and no turn of the loop changes TB's size. -/
theorem oneRequestPerPixel : Obligations.OneRequestPerPixel := by
  intro answer cell bank dw dh s
  obtain ⟨t, ht, hzp, hw, hh, hwf⟩ := decodeRows_counts answer cell bank dh.toNat
    { s with tb := blankBitmap dw dh, y := (dh.toNat : Int) - 1 }
  exact ⟨t, ht, hzp, hw, hh, hwf (blankBitmap_wf dw dh)⟩

end Sys2Proof.Machine

/-! # The context banks stay separate -/

namespace Sys2Proof.Machine

/-- A loop that runs on a bank goes from s to t without a write to the other bank's cells (spec 45_jb2_cross.md R272). -/
structure OtherBankKeeps (bank : Bank) (s t : State) : Prop where
  ctxx : bank = .d → t.ctxx = s.ctxx
  ctxd : bank = .x → t.ctxd = s.ctxd

/-- What writes no cell at all keeps the other bank, whichever it is. -/
theorem OtherBankKeeps.of_eq {bank : Bank} {s t : State} (hd : t.ctxd = s.ctxd) (hx : t.ctxx = s.ctxx) :
    OtherBankKeeps bank s t := ⟨fun _ => hx, fun _ => hd⟩

theorem OtherBankKeeps.trans {bank : Bank} {s t u : State} (hst : OtherBankKeeps bank s t) (htu : OtherBankKeeps bank t u) :
    OtherBankKeeps bank s u where
  ctxx hb := (htu.ctxx hb).trans (hst.ctxx hb)
  ctxd hb := (htu.ctxd hb).trans (hst.ctxd hb)

/-- The cell that a request writes is one of its own bank. -/
theorem otherBankKeeps_zpAnswered (bank : Bank) (z cell : Nat) (s : State) :
    OtherBankKeeps bank s (zpAnswered bank z cell s) where
  ctxx hb := by subst hb; exact setCell_d_ctxx s s.ctx cell
  ctxd hb := by subst hb; exact setCell_x_ctxd s s.ctx cell

theorem otherBankKeeps_bind {bank : Bank} {s : State} {x : Except ZpStop State} {f : State → Except ZpStop State}
    (hx : OtherBankKeeps bank s (loopState x)) (hf : ∀ t, OtherBankKeeps bank t (loopState (f t))) :
    OtherBankKeeps bank s (loopState (x >>= f)) := by
  cases x with
  | ok t => exact hx.trans (hf t)
  | error e => exact hx

theorem otherBankKeeps_decodePixel (zp : Zp) (bank : Bank) (s : State) :
    OtherBankKeeps bank s (loopState (decodePixel zp bank s)) := by
  unfold decodePixel
  split
  · exact .of_eq rfl rfl
  · next u hu =>
    obtain ⟨z, cell, -, rfl⟩ := zpRequest_eq_some hu
    exact otherBankKeeps_zpAnswered bank z cell s
  · next n u hu =>
    obtain ⟨z, cell, -, rfl⟩ := zpRequest_eq_some hu
    exact (otherBankKeeps_zpAnswered bank z cell s).trans (.of_eq rfl rfl)

theorem otherBankKeeps_decodeColumns (zp : Zp) (bank : Bank) (n : Nat) (s : State) :
    OtherBankKeeps bank s (loopState (decodeColumns zp bank n s)) := by
  induction n generalizing s with
  | zero => exact .of_eq rfl rfl
  | succ n ih => exact otherBankKeeps_bind (otherBankKeeps_decodePixel zp bank s) ih

theorem otherBankKeeps_decodeRow (zp : Zp) (bank : Bank) (s : State) :
    OtherBankKeeps bank s (loopState (decodeRow zp bank s)) := by
  have hstart : OtherBankKeeps bank s (s.rowBegun bank) := .of_eq rfl rfl
  rw [decodeRow_eq]
  exact otherBankKeeps_bind (hstart.trans (otherBankKeeps_decodeColumns zp bank _ _)) fun _ => .of_eq rfl rfl

theorem otherBankKeeps_decodeRows (zp : Zp) (bank : Bank) (n : Nat) (s : State) :
    OtherBankKeeps bank s (loopState (decodeRows zp bank n s)) := by
  induction n generalizing s with
  | zero => exact .of_eq rfl rfl
  | succ n ih => exact otherBankKeeps_bind (otherBankKeeps_decodeRow zp bank s) ih

theorem otherBankKeeps_decodeBitmap (zp : Zp) (bank : Bank) (dw dh : Word) (s : State) :
    OtherBankKeeps bank s (loopState (decodeBitmap zp bank dw dh s)) :=
  .trans (t := { s with tb := blankBitmap dw dh, y := (dh.toNat : Int) - 1 }) (.of_eq rfl rfl)
    (otherBankKeeps_decodeRows zp bank _ _)

/-- A JB2 command keeps the other bank, for it writes cells in its loop only: neither a refusal, nor a result, nor the wait for ZP
writes one. -/
theorem otherBankKeeps_jb2Command {bank : Bank} {prepare : State → State} (hp : ∀ s, OtherBankKeeps bank s (prepare s))
    (zp : Zp) (dw dh : Word) (s : State) : OtherBankKeeps bank s (jb2Command zp bank dw dh prepare s) := by
  have hloop := (hp s).trans (otherBankKeeps_decodeBitmap zp bank dw dh (prepare s))
  unfold jb2Command
  split
  · exact .of_eq rfl rfl
  split
  · exact .of_eq rfl rfl
  split
  all_goals
    next u hend =>
    rw [hend] at hloop
    exact hloop.trans (.of_eq rfl rfl)

/-- Settles O53: each JB2 command is its loop on its own bank. -/
theorem contextBanksStaySeparate : Obligations.ContextBanksStaySeparate := by
  intro s t dw dh mb box
  refine ⟨fun h => ?_, fun h => ?_⟩
  · obtain ⟨-, rfl⟩ := exec_jb2Direct h
    exact (otherBankKeeps_jb2Command (prepare := id) (fun _ => .of_eq rfl rfl) Config.zp dw dh s).ctxx rfl
  · obtain ⟨-, rfl⟩ := exec_jb2Cross h
    have hprepare (u : State) : OtherBankKeeps .x u (holdModel dw dh mb box u) := .of_eq rfl rfl
    exact (otherBankKeeps_jb2Command hprepare Config.zp dw dh s).ctxd rfl

end Sys2Proof.Machine

/-! # Control commands, reserved opcodes and the independence of the units -/

namespace Sys2Proof.Machine

/-! ## While a command runs -/

/-- While a command runs a step waits for ZP, runs an instruction in the state as it is, or fails a lookup
(spec 30_encoding.md R115, 70_reset_and_hazards.md R349). -/
theorem step_busy_cases {s t : State} (hp : s.pos ≠ .idle) (h : step s = .next t) :
    t = s ∨ (∃ i, exec i s = .next t) ∨ lookupFailed s = .next t := by
  cases hb : s.books with
  | none =>
    have hwait : s.pos = .zpWait := by
      cases hpos : s.pos
      case idle => exact absurd hpos hp
      case zpWait => rfl
      all_goals simp [State.books, hpos] at hb
    have hfetch : fetch s = .nothing := by simp only [fetch, hb, if_pos hwait]
    rw [step, hfetch] at h
    cases h
    exact .inl rfl
  | some books =>
    rw [step, fetch_of_books hb] at h
    dsimp only at h
    split at h
    · exact .inr (.inl ⟨_, h⟩)
    · exact .inr (.inr h)

theorem lookupFailed_inbox {s t : State} (h : lookupFailed s = .next t) : t.inbox = s.inbox := by
  rw [lookupFailed_eq] at h
  cases h
  rfl

/-- Settles O6: the queue is taken from by the fetch between commands only, and no instruction writes it. -/
theorem busyTakesNothingFromHost : Obligations.BusyTakesNothingFromHost := by
  intro s t hp h
  obtain rfl | ⟨i, hi⟩ | hl := step_busy_cases hp h
  · rfl
  · obtain ⟨-, hinbox, -⟩ := ctrlAndStreamWriters i s t hi
    exact hinbox
  · exact lookupFailed_inbox hl

/-! ## CTX_INIT and WRITE_CTRL -/

/-- Every context cell at its initial contents and no JB2 failure (spec 46_control.md R290). -/
def State.ctxRestored (s : State) : State :=
  { s with
    ctxd := Vector.replicate 1024 Config.cellInit, ctxx := Vector.replicate 2048 Config.cellInit
    jb2Failed := false, jb2Err := .noError }

theorem exec_ctxInit_idle {s : State} (hp : s.pos = .idle) : exec .ctxInit s = .next (s.ctxRestored.reply (.ok .unit)) :=
  show execCtxInit s = _ from commandAt_idle hp _

/-- Settles O54. -/
theorem ctxInitRestoresCells : Obligations.CtxInitRestoresCells := by
  intro s hp
  exact ⟨_, exec_ctxInit_idle hp, vector_get_replicate Config.cellInit, vector_get_replicate Config.cellInit, rfl⟩

theorem exec_writeCtrl_idle {s : State} (hp : s.pos = .idle) (v : Word) :
    exec (.writeCtrl v) s = .next (State.reply (.ok .unit) { s with ovrClamp := v.getLsbD 0 }) :=
  show execWriteCtrl v s = _ from commandAt_idle hp _

/-- Settles O55. -/
theorem writeCtrlWritesBitZero : Obligations.WriteCtrlWritesBitZero := by
  intro s v hp
  exact ⟨exec_writeCtrl_idle hp v, BitVec.and_one_eq_setWidth_ofBool_getLsbD.symm⟩

/-! ## READ_REG -/

/-- A field put in at bit k, above every bit of the number n that stands there already, adds 2^k times its own number. -/
theorem toNat_or_field {a : BitVec 32} {n k w : Nat} (ha : a.toNat = n) (x : BitVec w) (hn : n < 2 ^ k) (hw : w + k ≤ 32) :
    (a ||| x.setWidth 32 <<< k).toNat = n + 2 ^ k * x.toNat := by
  have hfits : x.toNat * 2 ^ k < 2 ^ 32 :=
    calc
      x.toNat * 2 ^ k < 2 ^ w * 2 ^ k := Nat.mul_lt_mul_of_pos_right x.isLt (Nat.two_pow_pos k)
      _ = 2 ^ (w + k) := (Nat.pow_add 2 w k).symm
      _ ≤ 2 ^ 32 := Nat.pow_le_pow_right (by decide) hw
  rw [BitVec.toNat_or, BitVec.toNat_shiftLeft, BitVec.toNat_setWidth_of_le (by omega), Nat.shiftLeft_eq,
    Nat.mod_eq_of_lt hfits, Nat.mul_comm, ha, Nat.or_comm, ← Nat.two_pow_add_eq_or_of_lt hn, Nat.add_comm]

theorem ctrlReg_toNat (s : State) : s.ctrlReg.toNat = s.ovrClamp.toNat := by
  rw [State.ctrlReg, BitVec.toNat_setWidth_of_le (by decide), BitVec.toNat_ofBool]

/-- `STATUS` as a number: its fields stand beside each other (spec 10_state.md R22). -/
theorem statusReg_toNat (s : State) :
    s.statusReg.toNat = s.mmrState.code.toNat + 4 * s.jb2Failed.toNat + 16 * s.mmrErr.code.toNat +
      256 * s.jb2Err.code.toNat + 4096 * s.lastErr.code.toNat := by
  have hstate_lt := s.mmrState.code.isLt
  have hflag_lt := (BitVec.ofBool s.jb2Failed).isLt
  have hmmr_lt := s.mmrErr.code.isLt
  have hjb2_lt := s.jb2Err.code.isLt
  have hstate : (s.mmrState.code.setWidth 32).toNat = s.mmrState.code.toNat := BitVec.toNat_setWidth_of_le (by decide)
  have hflag := toNat_or_field hstate (BitVec.ofBool s.jb2Failed) (k := 2) (by omega) (by decide)
  have hmmr := toNat_or_field hflag s.mmrErr.code (k := 4) (by omega) (by decide)
  have hjb2 := toNat_or_field hmmr s.jb2Err.code (k := 8) (by omega) (by decide)
  have hlast := toNat_or_field hjb2 s.lastErr.code (k := 12) (by omega) (by decide)
  rw [BitVec.toNat_ofBool] at hlast
  exact hlast

/-- The numbers of the sixteen registers, in the order of their indices (spec 10_state.md R38). -/
def State.registerNumbers (s : State) : List Nat :=
  [s.ovrClamp.toNat,
    s.mmrState.code.toNat + 4 * s.jb2Failed.toNat + 16 * s.mmrErr.code.toNat + 256 * s.jb2Err.code.toNat +
      4096 * s.lastErr.code.toNat,
    s.width.toNat, s.height.toNat, s.flags.toNat, s.rps.toNat, s.lineno.toNat, s.striplineno.toNat, s.stripeno.toNat,
    s.bitpos.toNat, s.errrow.toNat, s.errbit.toNat, s.tb.w.toNat, s.tb.h.toNat, s.jb2Errx.toNat, s.jb2Erry.toNat]

/-- A register index in range reads its register, widened to 64 bits (spec 46_control.md R292). -/
theorem regValue_of_le {n : BitVec 8} (hn : n.toNat ≤ 0x0f) (s : State) :
    ∃ v, s.regValue n = some v ∧ v.toNat = s.registerNumbers.getD n.toNat 0 := by
  have hwiden {w : Nat} (hw : w ≤ 64) (x : BitVec w) : (x.setWidth 64).toNat = x.toNat := BitVec.toNat_setWidth_of_le hw
  unfold State.regValue
  generalize n.toNat = k at hn
  have hk : k = 0 ∨ k = 1 ∨ k = 2 ∨ k = 3 ∨ k = 4 ∨ k = 5 ∨ k = 6 ∨ k = 7 ∨
      k = 8 ∨ k = 9 ∨ k = 10 ∨ k = 11 ∨ k = 12 ∨ k = 13 ∨ k = 14 ∨ k = 15 := by omega
  obtain rfl | rfl | rfl | rfl | rfl | rfl | rfl | rfl | rfl | rfl | rfl | rfl | rfl | rfl | rfl | rfl := hk
  · exact ⟨_, rfl, (hwiden (by decide) _).trans (ctrlReg_toNat s)⟩
  · exact ⟨_, rfl, (hwiden (by decide) _).trans (statusReg_toNat s)⟩
  all_goals exact ⟨_, rfl, hwiden (by decide) _⟩

/-- Above 0x0F there is no register (spec 46_control.md R292). -/
theorem regValue_of_lt {n : BitVec 8} (hn : 0x0f < n.toNat) (s : State) : s.regValue n = none := by
  obtain ⟨m, hm⟩ : ∃ m, n.toNat = m + 16 := ⟨n.toNat - 16, by omega⟩
  rw [State.regValue, hm]
  rfl

theorem exec_readReg_some {s : State} (hp : s.pos = .idle) {n : BitVec 8} {v : BitVec 64} (hv : s.regValue n = some v) :
    exec (.readReg n) s = .next (s.reply (.ok (.value v))) := by
  rw [show exec (.readReg n) s = execReadReg n s from rfl, execReadReg, commandAt_idle hp, hv]

theorem exec_readReg_none {s : State} (hp : s.pos = .idle) {n : BitVec 8} (hv : s.regValue n = none) :
    exec (.readReg n) s = .next (s.replyErr .illegalCommand) := by
  rw [show exec (.readReg n) s = execReadReg n s from rfl, execReadReg, commandAt_idle hp, hv]

/-- Settles O56: an index names a register or none. -/
theorem readRegReturnsRegisters : Obligations.ReadRegReturnsRegisters := by
  intro s n hp
  constructor
  · intro hn
    exact exec_readReg_none hp (regValue_of_lt hn s)
  · intro hn
    obtain ⟨v, hv, hnum⟩ := regValue_of_le hn s
    exact ⟨v, exec_readReg_some hp hv, hnum⟩

/-! ## Reserved opcodes -/

theorem reservedOpcode_iff {op : BitVec 8} : reservedOpcode op = true ↔ op.toNat = 0 ∨ 9 ≤ op.toNat := by
  simp only [reservedOpcode, Bool.or_eq_true, beq_iff_eq, Nat.ble_eq]

/-- A reserved opcode is read before its operands are looked at (spec 46_control.md R293). -/
theorem decode_reserved {op : BitVec 8} (h : reservedOpcode op = true) (ops : Operands) :
    decode (.command ⟨op, ops⟩) = .ok (.reserved op) := by
  have hinstr : commandInstr ⟨op, ops⟩ = some (.reserved op) := by rw [commandInstr, if_pos h]
  rw [decode, decodeCommand, hinstr]
  exact if_pos h

theorem exec_reserved_idle {s : State} (hp : s.pos = .idle) (op : BitVec 8) :
    exec (.reserved op) s = .next (s.replyErr .illegalCommand) :=
  show execReserved op s = _ from commandAt_idle hp _

/-- Each opcode from 0x01 to 0x08 is a command's (spec 30_encoding.md R122). -/
theorem exists_command_of_not_reserved {op : BitVec 8} (h : ¬ (op.toNat = 0 ∨ 9 ≤ op.toNat)) :
    ∃ ops i, decode (.command ⟨op, ops⟩) = .ok i ∧ ∀ op', i ≠ .reserved op' := by
  have hop : op = 0x01 ∨ op = 0x02 ∨ op = 0x03 ∨ op = 0x04 ∨ op = 0x05 ∨ op = 0x06 ∨ op = 0x07 ∨ op = 0x08 := by bv_omega
  obtain rfl | rfl | rfl | rfl | rfl | rfl | rfl | rfl := hop
  · exact ⟨_, _, decode_command_encode (i := .mmrInit []) rfl rfl, nofun⟩
  · exact ⟨_, _, decode_command_encode (i := .mmrScanruns) rfl rfl, nofun⟩
  · exact ⟨_, _, decode_command_encode (i := .mmrScanrle) rfl rfl, nofun⟩
  · exact ⟨_, _, decode_command_encode (i := .jb2Direct 0 0) rfl rfl, nofun⟩
  · exact ⟨_, _, decode_command_encode (i := .jb2Cross 0 0 Bitmap.empty ⟨0, 0, 0, 0⟩) rfl empty_wf, nofun⟩
  · exact ⟨_, _, decode_command_encode (i := .ctxInit) rfl rfl, nofun⟩
  · exact ⟨_, _, decode_command_encode (i := .writeCtrl 0) rfl rfl, nofun⟩
  · exact ⟨_, _, decode_command_encode (i := .readReg 0) rfl rfl, nofun⟩

/-- Settles O57. -/
theorem reservedOpcodesAreIllegal : Obligations.ReservedOpcodesAreIllegal := by
  refine ⟨fun s op ops hp hop => ?_, fun op => ?_⟩
  · exact ⟨decode_reserved (reservedOpcode_iff.mpr hop) ops, exec_reserved_idle hp op⟩
  · exact (Decidable.em _).imp_right exists_command_of_not_reserved

/-! ## The units are disjoint -/

theorem sameJb2_refl (s : State) : SameJb2 s s := by simp [SameJb2]

/-- What an MMR command writes is no JB2 state. -/
theorem MmrKeeps.sameJb2 {s t : State} (h : MmrKeeps s t) : SameJb2 s t := by
  rw [h.frame]
  exact sameJb2_refl s

/-- The MMR error entry writes no JB2 state either (spec 60_exceptions.md R315). -/
theorem Leaves.sameJb2 {s t : State} {x : Try State} (h : Leaves id s x) (ht : finishMmr x = .next t) : SameJb2 s t := by
  obtain rfl | ⟨r, rfl, rfl⟩ := finishMmr_eq_next ht
  · exact MmrKeeps.sameJb2 h
  · exact MmrKeeps.sameJb2 (t := r.state) h

theorem CodewordResult.sameJb2 {n : Nat} {s t : State} {r : Result} (h : CodewordResult n s r) (ht : r = .next t) :
    SameJb2 s t := by
  obtain rfl | ⟨x, rfl, hx⟩ := h
  · cases ht
  · exact hx.leaves.sameJb2 ht

theorem startScan_sameJb2 {k : ScanKind} {s t : State} (h : startScan k s = .next t) : SameJb2 s t := by
  unfold startScan at h
  split at h
  · cases h
    exact sameJb2_refl s
  · cases h
    exact sameJb2_refl s
  · cases h
    exact sameJb2_refl s
  · exact (leaves_startRow k (beginOutput k s)).sameJb2 h

/-- What READ_REG answers, a register or an error, is the result port's and LAST_ERR's alone (spec 46_control.md R292). -/
theorem exec_readReg {n : BitVec 8} {s t : State} (h : exec (.readReg n) s = .next t) :
    ∃ e r, t = State.reply r { s with lastErr := e } := by
  obtain ⟨hp, -⟩ := commandAt_eq_next (show execReadReg n s = .next t from h)
  cases hv : s.regValue n with
  | none =>
    rw [exec_readReg_none hp hv] at h
    cases h
    exact ⟨.illegalCommand, .err .illegalCommand, rfl⟩
  | some v =>
    rw [exec_readReg_some hp hv] at h
    cases h
    exact ⟨s.lastErr, .ok (.value v), rfl⟩

/-- No instruction outside the JB2 family writes the JB2 units' state or the ZP agent's (spec 46_control.md R294). -/
theorem exec_sameJb2 {i : Instr} {s t : State} (h : exec i s = .next t) (hi : jb2Instr i = false) : SameJb2 s t := by
  cases he : encode i with
  | codeword book code len =>
    by_cases heofb : i = .eofb
    · subst heofb
      exact (codewordResult_eofb s).sameJb2 h
    · exact (codewordResult_exec he heofb s).sameJb2 h
  | command c =>
    cases i
    case mmrInit bytes =>
      obtain ⟨-, hbody⟩ := commandAt_eq_next (show execMmrInit bytes s = .next t from h)
      exact (leaves_initMmr bytes s).sameJb2 hbody
    case mmrScanruns => exact startScan_sameJb2 (commandAt_eq_next h).2
    case mmrScanrle => exact startScan_sameJb2 (commandAt_eq_next h).2
    case writeCtrl v => exact exec_writeCtrl h ▸ sameJb2_refl s
    case readReg n =>
      obtain ⟨e, r, rfl⟩ := exec_readReg h
      exact sameJb2_refl s
    case reserved opcode => exact exec_reserved h ▸ sameJb2_refl s
    case jb2Direct | jb2Cross | ctxInit => nomatch hi
    all_goals nomatch he

/-- No command outside the MMR family writes the MMR unit's state (spec 46_control.md R294). -/
theorem exec_sameMmr {i : Instr} {s t : State} (h : exec i s = .next t) (hi : mmrInstr i = false) : SameMmr s t := by
  cases i
  case jb2Direct dw dh =>
    obtain ⟨-, rfl⟩ := exec_jb2Direct h
    exact (jb2Command_sameMmr LoopKeeps.refl Config.zp .d dw dh s).1
  case jb2Cross dw dh mb box =>
    obtain ⟨-, rfl⟩ := exec_jb2Cross h
    exact (jb2Command_sameMmr (loopKeeps_holdModel dw dh mb box) Config.zp .x dw dh s).1
  case ctxInit =>
    obtain ⟨hp, -⟩ := commandAt_eq_next (show execCtxInit s = .next t from h)
    rw [exec_ctxInit_idle hp] at h
    cases h
    exact sameMmr_refl s
  case writeCtrl v => exact exec_writeCtrl h ▸ sameMmr_refl s
  case readReg n =>
    obtain ⟨e, r, rfl⟩ := exec_readReg h
    exact sameMmr_refl s
  case reserved opcode => exact exec_reserved h ▸ sameMmr_refl s
  all_goals nomatch hi

/-- Settles O58: a half for each unit. -/
theorem unitsAreDisjoint : Obligations.UnitsAreDisjoint := by
  intro i s t h
  exact ⟨exec_sameJb2 h, exec_sameMmr h⟩

end Sys2Proof.Machine

/-! # MMR_INIT on a bad header, and a stripe that S does not hold -/

namespace Sys2Proof.Machine

/-! ## MMR_INIT on a bad header -/

/-- MMR_INIT inside the header: SP is n, and W, H, MMR_FLAGS and RPS hold w, h, f and r (spec 42_mmr_commands.md R211). -/
def headerState (bytes : List Byte) (s : State) (n : BitVec 32) (w h : BitVec 16) (f : BitVec 2) (r : BitVec 16) : State :=
  { initStream bytes s with sp := n, width := w, height := h, flags := f, rps := r }

/-- A check of the header that fails ends MMR_INIT, with the registers that R211 has written by then
(spec 42_mmr_commands.md R211, 60_exceptions.md R307, R309). -/
theorem mmrInit_headerRaises {bytes : List Byte} {s : State} {e : ErrCode} {bit : BitVec 35} {n : BitVec 32} {w h : BitVec 16}
    {f : BitVec 2} {r : BitVec 16} (hp : s.pos = .idle)
    (hraise : parseHeader (initStream bytes s) = .error ⟨e, bit, headerState bytes s n w h f r⟩) :
    ∃ t, exec (.mmrInit bytes) s = .next t ∧ InitFailed e bit s t ∧
      t.width = w ∧ t.height = h ∧ t.flags = f ∧ t.rps = r := by
  have hinit : initMmr bytes s = .error ⟨e, bit, headerState bytes s n w h f r⟩ := by
    rw [initMmr, hraise, try_error_bind]
  refine ⟨mmrErrorEntry e bit (headerState bytes s n w h f r), ?_, ?_, rfl, rfl, rfl, rfl⟩
  · rw [exec_mmrInit hp, hinit, finishMmr_error]
  · simp [InitFailed, SameJb2, mmrErrorEntry, headerState]

/-- `Read32()` of the first four bytes of S. -/
theorem read32_initStream (b0 b1 b2 b3 : Byte) (rest : List Byte) (s : State) :
    read32 (initStream (b0 :: b1 :: b2 :: b3 :: rest) s) =
      .ok (b0 ++ b1 ++ b2 ++ b3, headerState (b0 :: b1 :: b2 :: b3 :: rest) s 4 0 0 0 0) := rfl

/-- `Read16()` of a field of the header, wherever S ends after it (spec 20_memory.md R62). -/
theorem read16_headerState {bytes : List Byte} {n : BitVec 32} {v : BitVec 16} (s : State) (w h : BitVec 16) (f : BitVec 2)
    (r : BitVec 16) (hhigh : bytes[n.toNat]? = some (v.extractLsb' 8 8))
    (hlow : bytes[(n + 1).toNat]? = some (v.extractLsb' 0 8)) :
    read16 (headerState bytes s n w h f r) = .ok (v, headerState bytes s (n + 2) w h f r) := by
  have hread {m : BitVec 32} {b : Byte} (hb : bytes[m.toNat]? = some b) :
      readByte (headerState bytes s m w h f r) = .ok (b, headerState bytes s (m + 1) w h f r) := by
    rw [readByte, show (headerState bytes s m w h f r).stream[(headerState bytes s m w h f r).sp.toNat]? = some b from hb]
    rfl
  have hnext : n + 1 + 1 = n + 2 := BitVec.add_assoc n 1 1
  simp only [read16, hread hhigh, hread hlow, try_ok_bind, try_pure, be16_join, hnext]

/-- The masked magic is checked before any register is written (spec 42_mmr_commands.md R211). -/
theorem parseHeader_badMagic {b0 b1 b2 b3 : Byte} (rest : List Byte) (s : State)
    (h : (b0 ++ b1 ++ b2 ++ b3 : BitVec 32) &&& 0xfffffffc ≠ 0x4d4d5200) :
    parseHeader (initStream (b0 :: b1 :: b2 :: b3 :: rest) s) =
      .error ⟨.badMMRHeader, 0, headerState (b0 :: b1 :: b2 :: b3 :: rest) s 4 0 0 0 0⟩ := by
  simp only [parseHeader, read32_initStream, try_ok_bind, if_pos h, raiseAt_eq]

/-- The flag bits of a header (spec 10_state.md R23). -/
def headerFlags (inv : Bool) (stripes : Option (BitVec 16)) : BitVec 2 :=
  BitVec.ofNat 2 (inv.toNat + 2 * stripes.isSome.toNat)

/-- The first four bytes of a header as one word (spec 30_encoding.md R116). -/
def headerMagic (inv : Bool) (stripes : Option (BitVec 16)) : BitVec 32 :=
  0x4d#8 ++ 0x4d#8 ++ 0x52#8 ++ BitVec.ofNat 8 (inv.toNat + 2 * stripes.isSome.toNat)

theorem headerMagic_masked (inv : Bool) (stripes : Option (BitVec 16)) :
    headerMagic inv stripes &&& 0xfffffffc = 0x4d4d5200 := by
  unfold headerMagic
  cases inv <;> cases stripes.isSome <;> decide

theorem headerMagic_flags (inv : Bool) (stripes : Option (BitVec 16)) :
    (headerMagic inv stripes).setWidth 2 = headerFlags inv stripes := by
  unfold headerMagic headerFlags
  cases inv <;> cases stripes.isSome <;> decide

/-- The rest of the header once W and H are in their registers: the check of both, then RPS with its own (spec
42_mmr_commands.md R211). -/
def headerChecks (s : State) : Try State :=
  if s.width = 0 ∨ s.height = 0 then raiseAt .badMMRHeader 32 s
  else if s.striped then do
    let (r, s) ← read16 s
    if r = 0 then raiseAt .badMMRHeader 64 { s with rps := r } else .ok { s with rps := r }
  else .ok { s with rps := s.height }

/-- MMR_INIT where W and H of a header have been read and not yet checked (spec 42_mmr_commands.md R211). -/
abbrev sizeRead (w h : BitVec 16) (inv : Bool) (stripes : Option (BitVec 16)) (rest : List Byte) (s : State) : State :=
  headerState (headerBytes w h inv stripes ++ rest) s 8 w h (headerFlags inv stripes) 0

/-- A header with the right magic is read up to H, whatever its fields are (spec 42_mmr_commands.md R211). -/
theorem parseHeader_eq_headerChecks (w h : BitVec 16) (inv : Bool) (stripes : Option (BitVec 16)) (rest : List Byte)
    (s : State) :
    parseHeader (initStream (headerBytes w h inv stripes ++ rest) s) = headerChecks (sizeRead w h inv stripes rest s) := by
  have hmagic : read32 (initStream (headerBytes w h inv stripes ++ rest) s) =
      .ok (headerMagic inv stripes, headerState (headerBytes w h inv stripes ++ rest) s 4 0 0 0 0) := rfl
  have hwidth (f : BitVec 2) : read16 { headerState (headerBytes w h inv stripes ++ rest) s 4 0 0 0 0 with flags := f } =
      .ok (w, headerState (headerBytes w h inv stripes ++ rest) s 6 0 0 f 0) := read16_headerState s 0 0 f 0 rfl rfl
  have hheight (f : BitVec 2) : read16 { headerState (headerBytes w h inv stripes ++ rest) s 6 0 0 f 0 with width := w } =
      .ok (h, headerState (headerBytes w h inv stripes ++ rest) s 8 w 0 f 0) := read16_headerState s w 0 f 0 rfl rfl
  simp only [parseHeader, hmagic, try_ok_bind, headerMagic_masked, headerMagic_flags, ne_eq, not_true_eq_false, if_false,
    hwidth, hheight]
  rfl

/-- W = 0 or H = 0 is found before RPS is read (spec 42_mmr_commands.md R211). -/
theorem headerChecks_noPixels {s : State} (hwh : s.width = 0 ∨ s.height = 0) :
    headerChecks s = .error ⟨.badMMRHeader, 32, s⟩ := by
  rw [headerChecks, if_pos hwh, raiseAt_eq]

/-- RPS = 0 is found in a striped header whose W and H pass (spec 42_mmr_commands.md R211). -/
theorem headerChecks_noStripeRows {s t : State} (hw : s.width ≠ 0) (hh : s.height ≠ 0) (hf : s.striped = true)
    (hread : read16 s = .ok (0, t)) : headerChecks s = .error ⟨.badMMRHeader, 64, { t with rps := 0 }⟩ := by
  rw [headerChecks, if_neg (not_or.mpr ⟨hw, hh⟩), if_pos hf, hread]
  rfl

theorem headerFlags_striped (inv : Bool) (r : BitVec 16) : (headerFlags inv (some r)).getLsbD 1 = true := by
  show (BitVec.ofNat 2 (inv.toNat + 2)).getLsbD 1 = true
  cases inv <;> decide

/-- Settles O14: the header's three checks, in the order in which it is read. -/
theorem mmrInitRejectsBadHeader : Obligations.MmrInitRejectsBadHeader := by
  intro s hp
  refine ⟨fun b0 b1 b2 b3 rest hmagic => ?_, fun w h inv stripes rest hwh => ?_, fun w h inv rest hw hh => ?_⟩
  · exact mmrInit_headerRaises hp (parseHeader_badMagic rest s hmagic)
  · exact mmrInit_headerRaises hp ((parseHeader_eq_headerChecks w h inv stripes rest s).trans (headerChecks_noPixels hwh))
  · have hread : read16 (sizeRead w h inv (some 0) rest s) = .ok (0, { sizeRead w h inv (some 0) rest s with sp := 10 }) :=
      read16_headerState s w h _ 0 rfl rfl
    have hchecks := headerChecks_noStripeRows (s := sizeRead w h inv (some 0) rest s) hw hh (headerFlags_striped inv 0) hread
    exact mmrInit_headerRaises (n := 10) hp ((parseHeader_eq_headerChecks w h inv (some 0) rest s).trans hchecks)

/-! ## A missing stripe -/

/-- A scan that cannot enter its stripe fails where `NextStripe()` raises, after STRIPLINENO is 0 (spec 42_mmr_commands.md R216,
60_exceptions.md R301). -/
theorem startScan_stripeRaises {k : ScanKind} {s u : State} {e : ErrCode} {bit : BitVec 35} (h : s.mmrState = .active)
    (hb : s.striped ∧ s.striplineno = s.rps)
    (hnext : nextStripe { beginOutput k s with striplineno := 0 } = .error ⟨e, bit, u⟩) :
    startScan k s = .next (mmrErrorEntry e bit u) := by
  have hb' : (beginOutput k s).striped ∧ (beginOutput k s).striplineno = (beginOutput k s).rps := hb
  simp only [startScan, h, startRow, if_pos hb', stripeBoundary, hnext, try_error_bind, finishMmr_error]

/-- Settles O18: the two ways in which `NextStripe()` raises. -/
theorem missingStripeRaises : Obligations.MissingStripeRaises := by
  intro e he s hp ha hf hl hlen
  refine ⟨fun hpast => ?_, fun hsend hshort => ?_⟩
  · have hnext := nextStripe_past (s := { beginOutput e.2 s with striplineno := 0 }) hpast
    exact ⟨_, (exec_scan he hp).trans (startScan_stripeRaises ha ⟨hf, hl⟩ hnext), mmrErrorEntry_spec _ _ _⟩
  · have hnext := nextStripe_short (s := { beginOutput e.2 s with striplineno := 0 }) hsend hshort hlen
    exact ⟨_, (exec_scan he hp).trans (startScan_stripeRaises ha ⟨hf, hl⟩ hnext), mmrErrorEntry_spec _ _ _⟩

end Sys2Proof.Machine

/-! # What every instruction does to the error registers -/

namespace Sys2Proof.Machine

/-! ## The codes that are raised, and operations that raise none -/

/-- An error code that the block raises: not 0, and not one of the two that it never does (spec 60_exceptions.md R300, R304,
R305). -/
abbrev Raisable (e : ErrCode) : Prop := e ≠ .noError ∧ e ∉ [.badCodebook, .badDictionary]

/-- Where an error of the MMR unit is recorded (spec 60_exceptions.md R309, R311). -/
def State.mmrErrors (s : State) : MmrState × ErrCode × ErrCode × Option CmdResult :=
  (s.mmrState, s.mmrErr, s.lastErr, s.result)

/-- An operation of the MMR unit that has gone from s to t without an error: it has not failed the unit, the error registers are the
same, and there is no new `Err` in the result port. -/
structure Quiet (s t : State) : Prop where
  mmrState : t.mmrState = .failed → s.mmrState = .failed
  mmrErr : t.mmrErr = s.mmrErr
  lastErr : t.lastErr = s.lastErr
  result : ∀ e ∈ returnedError t.result, e ∈ returnedError s.result

theorem Quiet.of_eq {s t : State} (h : t.mmrErrors = s.mmrErrors) : Quiet s t := by
  simp only [State.mmrErrors, Prod.mk.injEq] at h
  obtain ⟨hstate, herr, hlast, hresult⟩ := h
  exact ⟨hstate ▸ id, herr, hlast, fun _ => hresult ▸ id⟩

theorem Quiet.trans {s t u : State} (hst : Quiet s t) (htu : Quiet t u) : Quiet s u where
  mmrState := hst.mmrState ∘ htu.mmrState
  mmrErr := htu.mmrErr.trans hst.mmrErr
  lastErr := htu.lastErr.trans hst.lastErr
  result e := hst.result e ∘ htu.result e

/-- The registers of the row in progress record no error. -/
theorem RowLocal.quiet {s t : State} (h : RowLocal s t) : Quiet s t := .of_eq (congrArg State.mmrErrors h :)

/-- An operation of the MMR unit, run in s, is quiet where it answers a value, and its error is a raisable code where it does not;
`st` is the state of a value. -/
def Raises {α : Type} (st : α → State) (s : State) : Try α → Prop
  | .ok a => Quiet s (st a)
  | .error r => Raisable r.err

theorem Raises.ok {α : Type} {st : α → State} {s : State} {a : α} (h : (st a).mmrErrors = s.mmrErrors) : Raises st s (.ok a) :=
  Quiet.of_eq h

theorem Raises.raise {α : Type} {st : α → State} {s u : State} {e : ErrCode} {bit : BitVec 35} (h : Raisable e) :
    Raises st s (.error ⟨e, bit, u⟩) := h

/-- What tells no error may come first. -/
theorem Raises.of_quiet {α : Type} {st : α → State} {s t : State} {x : Try α} (hst : Quiet s t) (hx : Raises st t x) :
    Raises st s x := by
  cases x with
  | ok a => exact hst.trans hx
  | error r => exact hx

theorem Raises.bind {α β : Type} {st : α → State} {st' : β → State} {s : State} {x : Try α} {f : α → Try β}
    (hx : Raises st s x) (hf : ∀ a, Raises st' (st a) (f a)) : Raises st' s (x >>= f) := by
  cases x with
  | ok a => exact (hf a).of_quiet hx
  | error r => exact hx

/-! ## The row program -/

theorem raises_takeCodeword (n : Nat) (s : State) : Raises id s (takeCodeword n s) := by
  by_cases h : HasBits s n
  · rw [takeCodeword_ok h]
    exact .ok rfl
  · rw [takeCodeword_end h]
    exact .raise (by decide)

theorem raises_emit (v : Int) (s : State) : Raises id s (emit v s) := by
  by_cases h : CannotEmit s v
  · rw [emit_raises h]
    exact .raise (by decide)
  · rw [emit_ok (by omega) (by omega)]
    exact .ok rfl

theorem raises_emitPending (s : State) : Raises id s (emitPending s) := (raises_emit s.rle s).bind fun _ => .ok rfl

/-- A returned row is no error, and the unit has not failed after it (spec 42_mmr_commands.md R215). -/
theorem quiet_rowReturned (s : State) (row : List Nat) : Quiet s (rowReturned s row) where
  mmrState := by
    rw [rowReturned_mmrState]
    split
    · exact nofun
    · exact id
  mmrErr := rfl
  lastErr := rfl
  result := nofun

theorem raises_closeRow (s : State) : Raises id s (closeRow s) := by
  by_cases hover : (s.width.toNat : Int) < s.a0
  · cases hc : s.ovrClamp
    case false =>
      rw [closeRow_overshoot hover hc]
      exact .raise (by decide)
    case true =>
      rw [closeRow_clamp hover hc, rowReturned_of_rowLocal (rowLocal_clampRow s)]
      exact quiet_rowReturned s _
  · rw [closeRow_at_width (Int.not_lt.mp hover)]
    exact quiet_rowReturned s _

theorem raises_rowLoop (s : State) : Raises id s (rowLoop s) := by
  unfold rowLoop rowEnd
  split
  · exact .ok rfl
  split
  · exact .ok rfl
  · exact raises_closeRow s

theorem raises_afterMode (s : State) : Raises id s (afterMode s) := .of_quiet (t := resync s) (.of_eq rfl) (raises_rowLoop _)

theorem raises_endRun (s : State) : Raises id s (endRun s) := by
  unfold endRun
  split
  · exact (raises_emitPending s).bind fun _ => .ok rfl
  · exact (raises_emitPending s).bind raises_afterMode

theorem raises_addRun (v : Nat) (s : State) : Raises id s (addRun v s) := by
  have hjoined : Quiet s (s.joined v) := .of_eq rfl
  unfold addRun
  dsimp only
  split
  · exact .raise (by decide)
  split
  · exact .of_quiet hjoined (raises_endRun _)
  · exact hjoined

theorem quiet_setColor (c : Colour) (s : State) : Quiet s (s.setColor c) := .of_eq rfl

theorem raises_uPix (p : Colour) (s : State) : Raises id s (uPix p s) := by
  have hpixel (t : State) : Raises id t (.ok { t with rle := t.rle + 1, a0 := t.a0 + 1 }) := .ok rfl
  unfold uPix
  dsimp only
  split
  · exact Raises.bind (st := id) ((raises_emitPending s).bind (quiet_setColor p)) hpixel
  · exact hpixel s

theorem raises_uCheck (s : State) : Raises id s (uCheck s) := by
  unfold uCheck
  split
  · exact .raise (by decide)
  · exact .ok rfl

theorem raises_uBit (p : Colour) (s : State) : Raises id s (uBit p s) :=
  (raises_takeCodeword 1 s).bind fun t => (raises_uPix p t).bind raises_uCheck

theorem raises_uLiteral (k : Nat) (s : State) : Raises id s (uLiteral k s) := by
  induction k generalizing s with
  | zero => exact raises_uBit .black s
  | succ k ih => exact (raises_uBit .white s).bind ih

theorem raises_uWhites (n : Nat) (s : State) : Raises id s (uWhites n s) := by
  induction n generalizing s with
  | zero => exact .ok rfl
  | succ n ih => exact (raises_uPix .white s).bind ih

theorem quiet_restartRef (s : State) : Quiet s (restartRef s) := (rowLocal_restartRef s).quiet

theorem raises_exitFixup (t : Colour) (s : State) : Raises id s (exitFixup t s) := by
  unfold exitFixup
  dsimp only
  split
  · exact (raises_emitPending s).bind quiet_restartRef
  split
  · exact Raises.bind (st := id) ((raises_emitPending s).bind (quiet_setColor t)) quiet_restartRef
  · exact quiet_restartRef s

theorem raises_verticalMode (k : Int) (s : State) : Raises id s (verticalMode k s) := by
  have hvertical : Raises id s (vertical k s) :=
    (Raises.of_quiet (rowLocal_moveRef k s).quiet (raises_emit _ _)).bind fun _ => .ok rfl
  exact hvertical.bind raises_afterMode

theorem raises_rejectTrailing (s : State) : Raises id s (rejectTrailing s) := .raise (by decide)

theorem raises_closeTrailing (s : State) : Raises id s (closeTrailing s) := (raises_emitPending s).bind raises_closeRow

/-! ## The MMR commands -/

theorem raises_readByte (s : State) : Raises Prod.snd s (readByte s) := by
  unfold readByte
  split
  · exact .raise (by decide)
  · exact .ok rfl

theorem raises_read16 (s : State) : Raises Prod.snd s (read16 s) :=
  (raises_readByte s).bind fun (_, s1) => (raises_readByte s1).bind fun _ => .ok rfl

theorem raises_read32 (s : State) : Raises Prod.snd s (read32 s) :=
  (raises_readByte s).bind fun (_, s1) => (raises_readByte s1).bind fun (_, s2) =>
    (raises_readByte s2).bind fun (_, s3) => (raises_readByte s3).bind fun _ => .ok rfl

theorem raises_readStripe (s : State) : Raises id s (readStripe s) := (raises_read32 s).bind fun _ => .ok rfl

theorem raises_stripeBoundary (s : State) : Raises id s (stripeBoundary s) := by
  have hnext (t : State) : Raises id t (nextStripe t) := by
    unfold nextStripe
    split
    · exact .raise (by decide)
    · exact .of_quiet (t := { t with sp := t.send.setWidth 32 }) (.of_eq rfl) ((raises_readStripe _).bind fun _ => .ok rfl)
  exact .of_quiet (t := { s with striplineno := 0 }) (.of_eq rfl) ((hnext _).bind fun _ => .ok rfl)

theorem raises_parseHeader (s : State) : Raises id s (parseHeader s) := by
  refine (raises_read32 s).bind fun (magic, s1) => ?_
  dsimp only
  split
  · exact .raise (by decide)
  refine .of_quiet (t := { s1 with flags := magic.setWidth 2 }) (.of_eq rfl) ((raises_read16 _).bind fun (w, s2) => ?_)
  refine .of_quiet (t := { s2 with width := w }) (.of_eq rfl) ((raises_read16 _).bind fun (h, s3) => ?_)
  dsimp only
  split
  · exact .raise (by decide)
  split
  · refine .of_quiet (t := { s3 with height := h }) (.of_eq rfl) ((raises_read16 _).bind fun (r, s4) => ?_)
    dsimp only
    split
    · exact .raise (by decide)
    · exact .ok rfl
  · exact .ok rfl

theorem raises_initMmr (bytes : List Byte) (s : State) : Raises id s (initMmr bytes s) := by
  have hstart : Quiet s (initStream bytes s) := ⟨nofun, rfl, rfl, fun _ => id⟩
  have hfirst (t : State) : Raises id t (enterFirstStripe t) := (raises_readStripe t).bind fun _ => .ok rfl
  have hactive (t : State) : Raises id t (.ok (State.reply (.ok .unit) { whiteReference t with mmrState := .active }).freeRow) :=
    ⟨nofun, rfl, rfl, nofun⟩
  refine .of_quiet hstart ((raises_parseHeader _).bind fun t => ?_)
  dsimp only
  split
  · exact (hfirst t).bind hactive
  · exact .of_quiet (t := enterWholeData t) (.of_eq rfl) (hactive _)

theorem raises_startRow (k : ScanKind) (s : State) : Raises id s (startRow k s) := by
  have hport (t : State) : Quiet t (rowStart { t with scan := k, result := none }) := ⟨id, rfl, rfl, nofun⟩
  have hrow (t : State) : Raises id t (rowLoop (rowStart { t with scan := k, result := none })) :=
    (raises_rowLoop _).of_quiet (hport t)
  unfold startRow
  dsimp only
  split
  · exact (raises_stripeBoundary s).bind hrow
  · exact hrow s

/-! ## Codewords -/

/-- An instruction's answer in s is a codeword's: the fault of a codeword out of position, or the outcome of an operation whose error is
a raisable code. -/
def RaisingResult (s : State) (r : Result) : Prop :=
  r = .fault .codewordOutOfPosition ∨ ∃ x, r = finishMmr x ∧ Raises id s x

theorem raisingResult_runCodeword (c : Colour) (v len : Nat) (s : State) : RaisingResult s (runCodeword c v len s) := by
  unfold runCodeword
  split
  · exact .inr ⟨_, rfl, (raises_takeCodeword len s).bind (raises_addRun v)⟩
  · exact .inl rfl

theorem raisingResult_codewordAt {body : State → Try State} (h : ∀ s, Raises id s (body s)) (p : Position) (s : State) :
    RaisingResult s (codewordAt p body s) := by
  unfold codewordAt
  split
  · exact .inr ⟨_, rfl, h s⟩
  · exact .inl rfl

theorem raisingResult_modeCodeword {body close : State → Try State} (hbody : ∀ s, Raises id s (body s))
    (hclose : ∀ s, Raises id s (close s)) (len : Nat) (s : State) : RaisingResult s (modeCodeword len body close s) := by
  unfold modeCodeword
  split
  · exact .inr ⟨_, rfl, (raises_takeCodeword len s).bind hbody⟩
  · exact .inr ⟨_, rfl, (raises_takeCodeword len s).bind hclose⟩
  · exact .inl rfl

theorem raisingResult_vertical (k : Int) (len : Nat) (s : State) :
    RaisingResult s (modeCodeword len (verticalMode k) rejectTrailing s) :=
  raisingResult_modeCodeword (raises_verticalMode k) raises_rejectTrailing len s

/-- Every codeword is quiet or raises a raisable code. -/
theorem raisingResult_exec {i : Instr} {book : Book} {code len : Nat} (h : encode i = .codeword book code len) (s : State) :
    RaisingResult s (exec i s) := by
  have hmove (p : Position) (s : State) : Raises id s (.ok { s with pos := p }) := .ok rfl
  cases i
  case mmrInit | mmrScanruns | mmrScanrle | jb2Direct | jb2Cross | ctxInit | writeCtrl | readReg | reserved => nomatch h
  case p =>
    have hpass (s : State) : Raises id s (afterMode (pass s)) := .of_quiet (t := pass s) (.of_eq rfl) (raises_afterMode _)
    exact raisingResult_modeCodeword hpass raises_rejectTrailing 4 s
  case h => exact raisingResult_modeCodeword (hmove .run1) raises_rejectTrailing 3 s
  case v0 => exact raisingResult_modeCodeword (raises_verticalMode 0) raises_closeTrailing 1 s
  case vr1 => exact raisingResult_vertical 1 3 s
  case vr2 => exact raisingResult_vertical 2 6 s
  case vr3 => exact raisingResult_vertical 3 7 s
  case vl1 => exact raisingResult_vertical (-1) 3 s
  case vl2 => exact raisingResult_vertical (-2) 6 s
  case vl3 => exact raisingResult_vertical (-3) 7 s
  case eofb =>
    have heofb (s : State) : Raises id s (.ok (endScanNoLine { s.mark with lineno := s.height, mmrState := .done })) :=
      ⟨nofun, rfl, rfl, nofun⟩
    exact raisingResult_codewordAt heofb .mode s
  case unc => exact raisingResult_codewordAt (fun s => (raises_takeCodeword 10 s).bind (hmove .unc)) .mode s
  case u1 => exact raisingResult_codewordAt (raises_uLiteral 0) .unc s
  case u01 => exact raisingResult_codewordAt (raises_uLiteral 1) .unc s
  case u001 => exact raisingResult_codewordAt (raises_uLiteral 2) .unc s
  case u0001 => exact raisingResult_codewordAt (raises_uLiteral 3) .unc s
  case u00001 => exact raisingResult_codewordAt (raises_uLiteral 4) .unc s
  case u00000 =>
    exact raisingResult_codewordAt (fun s => (raises_takeCodeword 6 s).bind fun t =>
      (raises_uWhites 5 t).bind raises_uCheck) .unc s
  case ux t =>
    exact raisingResult_codewordAt (fun s => (raises_takeCodeword 8 s).bind fun u =>
      (raises_exitFixup t u).bind raises_afterMode) .unc s
  all_goals exact raisingResult_runCodeword _ _ _ s

/-! ## The story of the error registers -/

/-- What one instruction does to the error registers, from s to t (spec 60_exceptions.md R309-R311, 46_control.md R290). -/
structure ErrorStory (s t : State) : Prop where
  /-- The MMR unit's error is as it was, or a new one. -/
  mmr : ((t.mmrState = .failed → s.mmrState = .failed) ∧ t.mmrErr = s.mmrErr) ∨ Raisable t.mmrErr
  /-- The JB2 units' error is as it was, cleared, or a new one. -/
  jb2 : (t.jb2Failed = s.jb2Failed ∧ t.jb2Err = s.jb2Err) ∨ (t.jb2Failed = false ∧ t.jb2Err = .noError) ∨
    (t.jb2Failed = true ∧ Raisable t.jb2Err)
  /-- LAST_ERR is as it was and no new `Err` is returned, or both hold one code, a new one or that of a unit that has failed before. -/
  report : (t.lastErr = s.lastErr ∧ ∀ e ∈ returnedError t.result, e ∈ returnedError s.result) ∨
    (t.result = some (.err t.lastErr) ∧
      (Raisable t.lastErr ∨ (s.mmrState = .failed ∧ t.lastErr = s.mmrErr) ∨ (s.jb2Failed = true ∧ t.lastErr = s.jb2Err)))

theorem Quiet.errorStory {s t : State} (h : Quiet s t) (hjb2 : t.jb2Failed = s.jb2Failed ∧ t.jb2Err = s.jb2Err) :
    ErrorStory s t where
  mmr := .inl ⟨h.mmrState, h.mmrErr⟩
  jb2 := .inl hjb2
  report := .inl ⟨h.lastErr, h.result⟩

/-- An error that writes LAST_ERR only (spec 60_exceptions.md R311). -/
theorem errorStory_replyErr {s : State} {e : ErrCode}
    (he : Raisable e ∨ (s.mmrState = .failed ∧ e = s.mmrErr) ∨ (s.jb2Failed = true ∧ e = s.jb2Err)) :
    ErrorStory s (s.replyErr e) where
  mmr := .inl ⟨id, rfl⟩
  jb2 := .inl ⟨rfl, rfl⟩
  report := .inr ⟨rfl, he⟩

theorem errorStory_jb2ErrorEntry {s u : State} {e : ErrCode} (hu : Quiet s u) (he : Raisable e) :
    ErrorStory s (jb2ErrorEntry e u) where
  mmr := .inl ⟨hu.mmrState, hu.mmrErr⟩
  jb2 := .inr (.inr ⟨rfl, he⟩)
  report := .inr ⟨rfl, .inl he⟩

theorem SameJb2.errors {s t : State} (h : SameJb2 s t) : t.jb2Failed = s.jb2Failed ∧ t.jb2Err = s.jb2Err :=
  let ⟨hfailed, herr, _⟩ := h
  ⟨hfailed, herr⟩

/-- What an MMR instruction raises goes to its unit's registers, to LAST_ERR and to the result port (spec 60_exceptions.md R309). -/
theorem Raises.errorStory {s t : State} {x : Try State} (hx : Raises id s x) (h : finishMmr x = .next t)
    (hjb2 : SameJb2 s t) : ErrorStory s t := by
  obtain rfl | ⟨r, rfl, rfl⟩ := finishMmr_eq_next h
  · exact Quiet.errorStory hx hjb2.errors
  · exact ⟨.inr hx, .inl hjb2.errors, .inr ⟨rfl, .inl hx⟩⟩

/-- A scan by the state of the unit (spec 60_exceptions.md R306, R311). -/
theorem startScan_errorStory {k : ScanKind} {s t : State} (h : startScan k s = .next t) : ErrorStory s t := by
  have hjb2 := startScan_sameJb2 h
  cases hstate : s.mmrState
  case unconf =>
    rw [startScan_unconf hstate] at h
    cases h
    exact errorStory_replyErr (.inl (by decide))
  case failed =>
    rw [startScan_failed hstate] at h
    cases h
    exact errorStory_replyErr (.inr (.inl ⟨hstate, rfl⟩))
  case done =>
    rw [startScan_done hstate] at h
    cases h
    exact Quiet.errorStory ⟨id, rfl, rfl, nofun⟩ hjb2.errors
  case active =>
    simp only [startScan, hstate] at h
    exact Raises.errorStory (.of_quiet (t := beginOutput k s) (.of_eq rfl) (raises_startRow k _)) h hjb2

theorem LoopKeeps.quiet {s t : State} (h : LoopKeeps s t) : Quiet s t := .of_eq (congrArg State.mmrErrors h :)

theorem LoopKeeps.errors {s t : State} (h : LoopKeeps s t) : t.jb2Failed = s.jb2Failed ∧ t.jb2Err = s.jb2Err :=
  ⟨(congrArg State.jb2Failed h :), (congrArg State.jb2Err h :)⟩

/-- A JB2 command by its outcome: refused, too large, complete, failed in its loop, or waiting (spec 44_jb2_direct.md R244, R246;
60_exceptions.md R303, R310, R311). -/
theorem jb2Command_errorStory {prepare : State → State} (hp : ∀ s, LoopKeeps s (prepare s)) (zp : Zp) (bank : Bank)
    (dw dh : Word) (s : State) : ErrorStory s (jb2Command zp bank dw dh prepare s) := by
  unfold jb2Command
  split
  next hf => exact errorStory_replyErr (.inr (.inr ⟨hf, rfl⟩))
  split
  next => exact errorStory_jb2ErrorEntry (u := { s with x := -1, y := -1 }) (.of_eq rfl) (by decide)
  have hloop := (hp s).trans (loopKeeps_decodeBitmap zp bank dw dh (prepare s))
  split
  next u hend =>
    rw [hend] at hloop
    exact Quiet.errorStory ⟨hloop.quiet.mmrState, hloop.quiet.mmrErr, hloop.quiet.lastErr, nofun⟩ hloop.errors
  next u hend =>
    rw [hend] at hloop
    exact errorStory_jb2ErrorEntry hloop.quiet (by decide)
  next u hend =>
    rw [hend] at hloop
    exact Quiet.errorStory ⟨hloop.quiet.mmrState, hloop.quiet.mmrErr, hloop.quiet.lastErr, nofun⟩ hloop.errors

theorem jb2Instr_of_codeword {i : Instr} {book : Book} {code len : Nat} (h : encode i = .codeword book code len) :
    jb2Instr i = false := by
  cases i
  case jb2Direct | jb2Cross | ctxInit => nomatch h
  all_goals rfl

/-- Every instruction keeps to the story. -/
theorem exec_errorStory {i : Instr} {s t : State} (h : exec i s = .next t) : ErrorStory s t := by
  cases he : encode i with
  | codeword book code len =>
    obtain hfault | ⟨x, hx, hraises⟩ := raisingResult_exec he s
    · cases hfault.symm.trans h
    · exact hraises.errorStory (hx.symm.trans h) (exec_sameJb2 h (jb2Instr_of_codeword he))
  | command c =>
    cases i
    case mmrInit bytes =>
      obtain ⟨-, hbody⟩ := commandAt_eq_next (show execMmrInit bytes s = .next t from h)
      exact (raises_initMmr bytes s).errorStory hbody (exec_sameJb2 h rfl)
    case mmrScanruns => exact startScan_errorStory (commandAt_eq_next h).2
    case mmrScanrle => exact startScan_errorStory (commandAt_eq_next h).2
    case jb2Direct dw dh => exact (exec_jb2Direct h).2 ▸ jb2Command_errorStory LoopKeeps.refl _ _ _ _ _
    case jb2Cross dw dh mb box =>
      exact (exec_jb2Cross h).2 ▸ jb2Command_errorStory (loopKeeps_holdModel dw dh mb box) _ _ _ _ _
    case ctxInit =>
      obtain ⟨hp, -⟩ := commandAt_eq_next (show execCtxInit s = .next t from h)
      cases (exec_ctxInit_idle hp).symm.trans h
      exact ⟨.inl ⟨id, rfl⟩, .inr (.inl ⟨rfl, rfl⟩), .inl ⟨rfl, nofun⟩⟩
    case writeCtrl v => exact exec_writeCtrl h ▸ Quiet.errorStory ⟨id, rfl, rfl, nofun⟩ ⟨rfl, rfl⟩
    case readReg n =>
      obtain ⟨hp, -⟩ := commandAt_eq_next (show execReadReg n s = .next t from h)
      cases hv : s.regValue n with
      | none =>
        cases (exec_readReg_none hp hv).symm.trans h
        exact errorStory_replyErr (.inl (by decide))
      | some v =>
        cases (exec_readReg_some hp hv).symm.trans h
        exact Quiet.errorStory ⟨id, rfl, rfl, nofun⟩ ⟨rfl, rfl⟩
    case reserved opcode => exact exec_reserved h ▸ errorStory_replyErr (.inl (by decide))
    all_goals nomatch he

/-- Settles O59: it is the story's report of LAST_ERR and the port. -/
theorem lastErrWrittenOnlyByErr : Obligations.LastErrWrittenOnlyByErr := by
  intro i s t h
  obtain ⟨hlast, -⟩ | ⟨hresult, -⟩ := (exec_errorStory h).report
  · exact .inl hlast
  · exact .inr hresult

end Sys2Proof.Machine

/-! # The error registers and the bitmaps at every step -/

namespace Sys2Proof.Machine

/-! ## The error registers -/

/-- An instruction that keeps to the story keeps the registers consistent: what is new is raised, and what is reported of a failed unit
is that unit's error (spec 60_exceptions.md R304, R305, R309-R311). -/
theorem ErrorStory.errorsOk {s t : State} (h : ErrorStory s t) (hs : ErrorsOk s) : ErrorsOk t := by
  obtain ⟨hfailed, hjb2, hnoJb2, hmmrErr, hjb2Err, hlastErr, hresult⟩ := hs
  obtain ⟨hfailed', hmmrErr'⟩ :
      (t.mmrState = .failed → t.mmrErr ≠ .noError) ∧ t.mmrErr ∉ [.badCodebook, .badDictionary] := by
    obtain ⟨hstate, herr⟩ | ⟨hne, hmem⟩ := h.mmr
    · rw [herr]
      exact ⟨hfailed ∘ hstate, hmmrErr⟩
    · exact ⟨fun _ => hne, hmem⟩
  obtain ⟨hjb2', hnoJb2', hjb2Err'⟩ :
      (t.jb2Failed = true → t.jb2Err ≠ .noError) ∧ (t.jb2Failed = false → t.jb2Err = .noError) ∧
      t.jb2Err ∉ [.badCodebook, .badDictionary] := by
    obtain ⟨hflag, herr⟩ | ⟨hflag, herr⟩ | ⟨hflag, hne, hmem⟩ := h.jb2
    · rw [hflag, herr]
      exact ⟨hjb2, hnoJb2, hjb2Err⟩
    · simp [hflag, herr]
    · exact ⟨fun _ => hne, fun hclear => absurd (hflag.symm.trans hclear) (by decide), hmem⟩
  obtain ⟨hlastErr', hresult'⟩ : t.lastErr ∉ [.badCodebook, .badDictionary] ∧
      ∀ e ∈ returnedError t.result, e = t.lastErr ∧ e ≠ .noError := by
    obtain ⟨hlast, hport⟩ | ⟨hport, htold⟩ := h.report
    · rw [hlast]
      exact ⟨hlastErr, fun e he => hresult e (hport e he)⟩
    · have hraisable : Raisable t.lastErr := by
        obtain hraised | ⟨hstate, herr⟩ | ⟨hflag, herr⟩ := htold
        · exact hraised
        · exact herr ▸ ⟨hfailed hstate, hmmrErr⟩
        · exact herr ▸ ⟨hjb2 hflag, hjb2Err⟩
      obtain ⟨hne, hmem⟩ := hraisable
      refine ⟨hmem, fun e he => ?_⟩
      rw [hport] at he
      cases he
      exact ⟨rfl, hne⟩
  exact ⟨hfailed', hjb2', hnoJb2', hmmrErr', hjb2Err', hlastErr', hresult'⟩

/-- The port is empty once a command is accepted (spec 46_control.md R294). -/
theorem errorsOk_accept {s : State} (hs : ErrorsOk s) : ErrorsOk s.accept :=
  (Quiet.errorStory (s := s) (t := s.accept) ⟨id, rfl, rfl, nofun⟩ ⟨rfl, rfl⟩).errorsOk hs

theorem lookupFailed_sameJb2 {s t : State} (h : lookupFailed s = .next t) : SameJb2 s t := by
  rw [lookupFailed_eq] at h
  cases h
  exact sameJb2_refl s

/-- A failed lookup raises one of two codes (spec 20_memory.md R67). -/
theorem lookupFailed_errorStory {s t : State} (h : lookupFailed s = .next t) : ErrorStory s t := by
  have hraises : Raises id s (if s.exhausted then raiseAt .unexpectedEndOfStream s.bitpos s.mark
      else raiseAt .corruptMMRStream s.bitpos s.mark) := by
    split
    · exact .raise (by decide)
    · exact .raise (by decide)
  exact hraises.errorStory h (lookupFailed_sameJb2 h)

/-! ## The bitmaps -/

/-- TB is well formed where a loop ends or stops if it is where the loop starts. -/
def TargetWf (s : State) (x : Except ZpStop State) : Prop := s.tb.wf = true → (loopState x).tb.wf = true

theorem TargetWf.bind {s : State} {x : Except ZpStop State} {f : State → Except ZpStop State} (hx : TargetWf s x)
    (hf : ∀ t, TargetWf t (f t)) : TargetWf s (x >>= f) := by
  cases x with
  | ok t => exact hf t ∘ hx
  | error e => exact hx

theorem targetWf_decodePixel (zp : Zp) (bank : Bank) (s : State) : TargetWf s (decodePixel zp bank s) := by
  cases h : decodePixel zp bank s with
  | ok t => exact (targetKeeps_decodePixel h).1.wf
  | error e =>
    cases e with
    | endOfStream t =>
      obtain ⟨-, -, hwf, -⟩ := decodePixel_keeps (.inr h)
      exact hwf
    | noAnswer t =>
      obtain ⟨rfl, -⟩ := decodePixel_noAnswer.mp h
      exact id

theorem targetWf_decodeColumns (zp : Zp) (bank : Bank) (n : Nat) (s : State) : TargetWf s (decodeColumns zp bank n s) := by
  induction n generalizing s with
  | zero => exact id
  | succ n ih => exact (targetWf_decodePixel zp bank s).bind ih

theorem targetWf_decodeRows (zp : Zp) (bank : Bank) (n : Nat) (s : State) : TargetWf s (decodeRows zp bank n s) := by
  have hrow (t : State) : TargetWf t (decodeRow zp bank t) := by
    rw [decodeRow_eq]
    exact TargetWf.bind (s := t) (targetWf_decodeColumns zp bank _ (t.rowBegun bank)) fun _ => id
  induction n generalizing s with
  | zero => exact id
  | succ n ih => exact (hrow s).bind ih

/-- The loop starts on a blank TB (spec 44_jb2_direct.md R244). -/
theorem decodeBitmap_wf (zp : Zp) (bank : Bank) (dw dh : Word) (s : State) :
    (loopState (decodeBitmap zp bank dw dh s)).tb.wf = true :=
  targetWf_decodeRows zp bank _ _ (blankBitmap_wf dw dh)

/-- A JB2 command leaves TB well formed, and gives the model bitmap up where it does not wait (spec 10_state.md R33, R34). -/
theorem bitmapsOk_jb2Command (zp : Zp) (bank : Bank) (dw dh : Word) (prepare : State → State) {s : State}
    (hwf : s.tb.wf = true) (hmodel : s.model = none) : BitmapsOk (jb2Command zp bank dw dh prepare s) := by
  unfold jb2Command
  split
  · exact ⟨hwf, fun _ => hmodel⟩
  split
  · exact ⟨freeTb_wf hwf, fun _ => rfl⟩
  have hloop := decodeBitmap_wf zp bank dw dh (prepare s)
  split
  next u hend =>
    rw [hend] at hloop
    exact ⟨hloop, fun _ => rfl⟩
  next u hend =>
    rw [hend] at hloop
    exact ⟨freeTb_wf hloop, fun _ => rfl⟩
  next u hend =>
    rw [hend] at hloop
    exact ⟨hloop, fun hwait => absurd rfl hwait⟩

theorem SameJb2.bitmapsOk {s t : State} (h : SameJb2 s t) (hwf : s.tb.wf = true) (hmodel : s.model = none) : BitmapsOk t := by
  obtain ⟨-, -, -, -, -, -, htb, hheld, -⟩ := h
  exact ⟨htb ▸ hwf, fun _ => hheld.trans hmodel⟩

theorem exec_bitmapsOk {i : Instr} {s t : State} (h : exec i s = .next t) (hwf : s.tb.wf = true) (hmodel : s.model = none) :
    BitmapsOk t := by
  cases hi : jb2Instr i with
  | false => exact (exec_sameJb2 h hi).bitmapsOk hwf hmodel
  | true =>
    cases i
    case jb2Direct dw dh => exact (exec_jb2Direct h).2 ▸ bitmapsOk_jb2Command _ _ _ _ _ hwf hmodel
    case jb2Cross dw dh mb box => exact (exec_jb2Cross h).2 ▸ bitmapsOk_jb2Command _ _ _ _ _ hwf hmodel
    case ctxInit =>
      obtain ⟨hp, -⟩ := commandAt_eq_next (show execCtxInit s = .next t from h)
      cases (exec_ctxInit_idle hp).symm.trans h
      exact ⟨hwf, fun _ => hmodel⟩
    all_goals nomatch hi

/-! ## The step -/

/-- A command that waits for ZP is given nothing to run (spec 70_reset_and_hazards.md R349). -/
theorem pos_ne_zpWait_of_fetch_source {s : State} {src : Source} (h : fetch s = .source src) : s.pos ≠ .zpWait := by
  intro hp
  have hfetch : fetch s = .nothing := by simp [fetch, State.books, hp]
  cases hfetch.symm.trans h

/-- Settles O45: a step is an event, which resets the registers or leaves them, or an instruction, or a failed lookup. -/
theorem stepKeepsErrorsAndBitmaps : Obligations.StepKeepsErrorsAndBitmaps := by
  intro s t he hb h
  unfold step at h
  split at h
  · cases h
    exact ⟨he, hb⟩
  · cases h
    exact ⟨errorsOk_reset, empty_wf, fun _ => rfl⟩
  · cases h
    exact ⟨he, hb⟩
  next src hf =>
    obtain ⟨hwf, hheld⟩ := hb
    have hmodel := hheld (pos_ne_zpWait_of_fetch_source hf)
    cases src with
    | command c =>
      split at h
      next i hd => exact ⟨(exec_errorStory h).errorsOk (errorsOk_accept he), exec_bitmapsOk h hwf hmodel⟩
      next => cases h
    | window books w =>
      split at h
      next i hd => exact ⟨(exec_errorStory h).errorsOk he, exec_bitmapsOk h hwf hmodel⟩
      next => exact ⟨(lookupFailed_errorStory h).errorsOk he, (lookupFailed_sameJb2 h).bitmapsOk hwf hmodel⟩

end Sys2Proof.Machine

/-! # The step: what it runs, and its progress -/

namespace Sys2Proof.Machine

/-! ## What a step runs -/

/-- Between commands the oldest command that the host has issued is accepted and run (spec 46_control.md R294). -/
theorem step_of_command {s : State} {c : Command} {rest : List HostEvent} {i : Instr} (hp : s.pos = .idle)
    (hin : s.inbox = .command c :: rest) (hd : decode (.command c) = .ok i) :
    step s = exec i { s with inbox := rest, result := none } := by
  have hfetch : fetch s = .source (.command c) := by simp [fetch, State.books, hp, hin]
  have haccept : s.accept = { s with inbox := rest, result := none } := by rw [State.accept, hin, List.tail_cons]
  simp only [step, hfetch, hd, State.fetchedState, haccept]

/-- A codeword that the position's codebooks read is run in the state it was fetched in (spec 30_encoding.md R115). -/
theorem step_of_codeword {s : State} {books : List Book} {i : Instr} (hb : s.books = some books)
    (hd : decode (.window books s.window) = .ok i) : step s = exec i s := by
  simp only [step, fetch_of_books hb, hd, State.fetchedState]

/-- With nothing issued the block waits (spec 70_reset_and_hazards.md R340). -/
theorem step_of_nothingIssued {s : State} (hp : s.pos = .idle) (hin : s.inbox = []) : step s = .next s := by
  have hfetch : fetch s = .nothing := by simp [fetch, State.books, hp, hin]
  rw [step, hfetch]

/-- A command that waits for ZP goes on waiting, whatever the host has issued (spec 70_reset_and_hazards.md R349). -/
theorem step_of_zpWait {s : State} (hp : s.pos = .zpWait) : step s = .next s := by
  have hfetch : fetch s = .nothing := by simp [fetch, State.books, hp]
  rw [step, hfetch]

/-- Settles O5: the four things that a step can find to do. -/
theorem stepRunsDecodedInstruction : Obligations.StepRunsDecodedInstruction := fun _ =>
  ⟨fun _ _ _ => step_of_command, fun _ _ => step_of_codeword, step_of_nothingIssued, step_of_zpWait⟩

/-! ## Progress inside a scan -/

/-- Inside a scan command some codebook reads the next codeword (spec 30_encoding.md R115). -/
theorem exists_books {s : State} (hidle : s.pos ≠ .idle) (hwait : s.pos ≠ .zpWait) : ∃ books, s.books = some books := by
  unfold State.books
  split
  case h_1 hp => exact absurd hp hidle
  case h_7 hp => exact absurd hp hwait
  all_goals exact ⟨_, rfl⟩

/-- A command answers a state only between commands (spec 46_control.md R294). -/
theorem pos_of_exec_command {i : Instr} {c : Command} {s t : State} (hi : encode i = .command c) (h : exec i s = .next t) :
    s.pos = .idle := by
  have hidle {body : State → Result} (hbody : commandAt body s = .next t) : s.pos = .idle := (commandAt_eq_next hbody).1
  cases i
  case mmrInit bytes => exact hidle (show execMmrInit bytes s = .next t from h)
  case mmrScanruns => exact hidle (show execMmrScanruns s = .next t from h)
  case mmrScanrle => exact hidle (show execMmrScanrle s = .next t from h)
  case jb2Direct dw dh => exact hidle (show execJb2Direct dw dh s = .next t from h)
  case jb2Cross dw dh mb box => exact hidle (show execJb2Cross dw dh mb box s = .next t from h)
  case ctxInit => exact hidle (show execCtxInit s = .next t from h)
  case writeCtrl v => exact hidle (show execWriteCtrl v s = .next t from h)
  case readReg n => exact hidle (show execReadReg n s = .next t from h)
  case reserved opcode => exact hidle (show execReserved opcode s = .next t from h)
  all_goals nomatch hi

/-- No codeword is empty (spec 30_encoding.md R101). -/
theorem length_pos_of_encode {i : Instr} {book : Book} {code len : Nat} (h : encode i = .codeword book code len) :
    0 < len := by
  cases i
  case mmrInit | mmrScanruns | mmrScanrle | jb2Direct | jb2Cross | ctxInit | writeCtrl | readReg | reserved => nomatch h
  all_goals
    cases h
    decide

/-- A codeword ends the command by its error, or has read its bits (spec 60_exceptions.md R309). -/
theorem CodewordResult.idle_or_reads {n : Nat} {s t : State} {r : Result} (h : CodewordResult n s r) (ht : r = .next t) :
    t.pos = .idle ∨ Reads n s t := by
  obtain rfl | ⟨x, rfl, hx⟩ := h
  · cases ht
  · obtain rfl | ⟨e, rfl, rfl⟩ := finishMmr_eq_next ht
    · exact .inr hx
    · exact .inl rfl

/-- EOFB ends the scan (spec 41_mmr_escapes.md R191). -/
theorem exec_eofb_idle {s t : State} (h : exec .eofb s = .next t) : t.pos = .idle := by
  change execEofb s = .next t at h
  rw [execEofb, codewordAt] at h
  split at h
  · cases h
    rfl
  · cases h

/-- Inside a scan command an instruction ends the command or moves BITPOS on. -/
theorem exec_busy_progress {i : Instr} {s t : State} (hc : CursorOk s) (hp : s.pos ≠ .idle) (h : exec i s = .next t) :
    t.pos = .idle ∨ s.bitpos.toNat < t.bitpos.toNat := by
  cases hi : encode i with
  | command c => exact absurd (pos_of_exec_command hi h) hp
  | codeword book code len =>
    by_cases he : i = .eofb
    · subst he
      exact .inl (exec_eofb_idle h)
    · refine ((codewordResult_exec hi he s).idle_or_reads h).imp_right fun hreads => ?_
      have hbit := hreads.bitpos hc
      have hlen := length_pos_of_encode hi
      omega

/-- A failed lookup ends the command (spec 20_memory.md R67). -/
theorem lookupFailed_idle {s t : State} (h : lookupFailed s = .next t) : t.pos = .idle := by
  rw [lookupFailed_eq] at h
  cases h
  rfl

/-- Inside a scan command a step ends the command or moves BITPOS on (spec 70_reset_and_hazards.md R349). -/
theorem step_scan_progress {s t : State} (hc : CursorOk s) (hidle : s.pos ≠ .idle) (hwait : s.pos ≠ .zpWait)
    (h : step s = .next t) : t.pos = .idle ∨ s.bitpos.toNat < t.bitpos.toNat := by
  obtain ⟨books, hb⟩ := exists_books hidle hwait
  cases hw : decodeWindow books s.window with
  | none => exact .inl (lookupFailed_idle (step_of_noMatch hb hw ▸ h))
  | some i =>
    have hd : decode (.window books s.window) = .ok i := by simp only [decode, hw]
    exact exec_busy_progress hc hidle (step_of_codeword hb hd ▸ h)

/-! ## Where a bitmap loop waits -/

/-- A loop stops for want of an answer only at a request that the oracle does not answer (spec 70_reset_and_hazards.md R349). -/
def WaitsUnanswered (zp : Zp) (bank : Bank) (x : Except ZpStop State) : Prop :=
  ∀ u, x = .error (.noAnswer u) → zp u.zp bank u.ctx (u.cell bank u.ctx) = none

theorem WaitsUnanswered.ok {zp : Zp} {bank : Bank} (s : State) : WaitsUnanswered zp bank (.ok s) := by
  intro u hu
  cases hu

theorem WaitsUnanswered.bind {zp : Zp} {bank : Bank} {x : Except ZpStop State} {f : State → Except ZpStop State}
    (hx : WaitsUnanswered zp bank x) (hf : ∀ s, WaitsUnanswered zp bank (f s)) : WaitsUnanswered zp bank (x >>= f) := by
  cases x with
  | ok s => exact hf s
  | error e => exact hx

theorem waitsUnanswered_decodePixel (zp : Zp) (bank : Bank) (s : State) :
    WaitsUnanswered zp bank (decodePixel zp bank s) := by
  intro u hu
  obtain ⟨rfl, hnone⟩ := decodePixel_noAnswer.mp hu
  exact hnone

theorem waitsUnanswered_decodeColumns (zp : Zp) (bank : Bank) (n : Nat) (s : State) :
    WaitsUnanswered zp bank (decodeColumns zp bank n s) := by
  induction n generalizing s with
  | zero => exact .ok s
  | succ n ih => exact (waitsUnanswered_decodePixel zp bank s).bind ih

theorem waitsUnanswered_decodeRow (zp : Zp) (bank : Bank) (s : State) :
    WaitsUnanswered zp bank (decodeRow zp bank s) := by
  rw [decodeRow_eq]
  exact (waitsUnanswered_decodeColumns zp bank _ _).bind fun t => .ok { t with y := t.y - 1 }

theorem waitsUnanswered_decodeRows (zp : Zp) (bank : Bank) (n : Nat) (s : State) :
    WaitsUnanswered zp bank (decodeRows zp bank n s) := by
  induction n generalizing s with
  | zero => exact .ok s
  | succ n ih => exact (waitsUnanswered_decodeRow zp bank s).bind ih

/-- Settles O11: a step inside a scan, the loop's request, and the wait for ZP. -/
theorem stepConsumesOrEnds : Obligations.StepConsumesOrEnds :=
  ⟨fun _ _ => step_scan_progress, fun zp bank _ dh _ => waitsUnanswered_decodeRows zp bank dh.toNat _,
    fun _ => step_of_zpWait⟩

end Sys2Proof.Machine

/-! # The JB2 commands within the size limits -/

namespace Sys2Proof.Machine

/-! ## A command and its loop -/

/-- Past the checks a JB2 command is its bitmap loop and what the loop's outcome leaves (spec 44_jb2_direct.md R244, R246). -/
theorem jb2Command_runs {zp : Zp} {bank : Bank} {dw dh : Word} {prepare : State → State} {s : State}
    (hf : s.jb2Failed = false) (hw : dw.toNat ≤ Config.jb2MaxW.toNat) (hh : dh.toNat ≤ Config.jb2MaxH.toNat) :
    jb2Command zp bank dw dh prepare s = bitmapReturned (decodeBitmap zp bank dw dh (prepare s)) := by
  have hsize : ¬ (Config.jb2MaxW.toNat < dw.toNat ∨ Config.jb2MaxH.toNat < dh.toNat) := by omega
  rw [jb2Command, if_neg (by simp [hf]), if_neg hsize]
  cases decodeBitmap zp bank dw dh (prepare s) with
  | ok u => rfl
  | error e => cases e <;> rfl

/-- CTX after the last pixel has no part in what the command leaves: it is a free value then (log 8). -/
theorem bitmapReturned_withoutCtx (x : Except ZpStop State) : bitmapReturned (withoutCtx x) = bitmapReturned x := by
  cases x with
  | ok u => rfl
  | error e => rfl

/-- The command leaves what the fresh loop leaves (spec 44_jb2_direct.md R243, 45_jb2_cross.md R268). -/
theorem bitmapReturned_decodeBitmap (zp : Zp) (bank : Bank) (dw dh : Word) (s : State) :
    bitmapReturned (decodeBitmap zp bank dw dh s) = bitmapReturned (freshBitmap zp bank dw dh s) := by
  rw [← bitmapReturned_withoutCtx, rolledLoopIsFreshLoop zp bank dw dh s, bitmapReturned_withoutCtx]

section
variable {dw dh : Word} {s : State} (hp : s.pos = .idle) (hf : s.jb2Failed = false)
  (hw : dw.toNat ≤ Config.jb2MaxW.toNat) (hh : dh.toNat ≤ Config.jb2MaxH.toNat)
include hp hf hw hh

/-- JB2_DIRECT is the fresh loop on the direct bank (spec 44_jb2_direct.md R244). -/
theorem exec_jb2Direct_runs :
    exec (.jb2Direct dw dh) s = .next (bitmapReturned (freshBitmap Config.zp .d dw dh s)) := by
  rw [show exec (.jb2Direct dw dh) s = execJb2Direct dw dh s from rfl, execJb2Direct, commandAt_idle hp,
    jb2Command_runs hf hw hh, bitmapReturned_decodeBitmap, id]

/-- JB2_CROSS is the fresh loop on the cross bank, with the model bitmap held (spec 45_jb2_cross.md R270). -/
theorem exec_jb2Cross_runs (mb : Bitmap) (box : Box) :
    exec (.jb2Cross dw dh mb box) s =
      .next (bitmapReturned (freshBitmap Config.zp .x dw dh (holdModel dw dh mb box s))) := by
  rw [show exec (.jb2Cross dw dh mb box) s = execJb2Cross dw dh mb box s from rfl, execJb2Cross, commandAt_idle hp,
    jb2Command_runs hf hw hh, bitmapReturned_decodeBitmap]

end

/-! ## Empty bitmaps -/

/-- Rows without columns issue no request: only X and Y move (spec 44_jb2_direct.md R244). -/
theorem freshRows_noColumns (zp : Zp) (bank : Bank) (n : Nat) {s : State} (hw : s.tb.w = 0) :
    ∃ x y, freshRows zp bank n s = .ok { s with x := x, y := y } := by
  induction n generalizing s with
  | zero => exact ⟨s.x, s.y, rfl⟩
  | succ n ih =>
    have hrow : freshRows zp bank (n + 1) s = freshRows zp bank n { s with x := 0, y := s.y - 1 } := by
      rw [freshRows, hw]
      rfl
    rw [hrow]
    exact ih (s := { s with x := 0, y := s.y - 1 }) hw

/-- The loop over an empty bitmap leaves it blank and issues no request (spec 44_jb2_direct.md R244). -/
theorem freshBitmap_empty (zp : Zp) (bank : Bank) {dw dh : Word} (hempty : dw = 0 ∨ dh = 0) (s : State) :
    ∃ x y, freshBitmap zp bank dw dh s = .ok { s with tb := blankBitmap dw dh, x := x, y := y } := by
  obtain rfl | rfl := hempty
  · exact freshRows_noColumns zp bank dh.toNat rfl
  · exact ⟨_, _, rfl⟩

/-- An empty bitmap is complete at once (spec 44_jb2_direct.md R244). -/
theorem bitmapReturned_empty (zp : Zp) (bank : Bank) {dw dh : Word} (hempty : dw = 0 ∨ dh = 0) (s : State) :
    let t := bitmapReturned (freshBitmap zp bank dw dh s)
    t.result = some (.ok .unit) ∧ t.pos = .idle ∧ t.tb = blankBitmap dw dh ∧ t.zp = s.zp := by
  obtain ⟨x, y, hloop⟩ := freshBitmap_empty zp bank hempty s
  rw [hloop]
  exact ⟨rfl, rfl, rfl, rfl⟩

/-- Settles O51: both commands are the fresh loop, and on an empty bitmap that loop is over at once. -/
theorem jb2CommandsComplete : Obligations.Jb2CommandsComplete := by
  intro s dw dh mb box hp hf hw hh
  have hdirect := exec_jb2Direct_runs hp hf hw hh
  have hcross := exec_jb2Cross_runs hp hf hw hh mb box
  refine ⟨hdirect, hcross, fun hempty i hi => ?_⟩
  simp only [List.mem_cons, List.not_mem_nil, or_false] at hi
  obtain rfl | rfl := hi
  · exact ⟨_, hdirect, bitmapReturned_empty Config.zp .d hempty s⟩
  · exact ⟨_, hcross, bitmapReturned_empty Config.zp .x hempty (holdModel dw dh mb box s)⟩

end Sys2Proof.Machine

/-! # MMR_INIT on a header that S cuts short -/

namespace Sys2Proof.Machine

/-! ## What a short read leaves -/

/-- An operation of MMR_INIT raises at the end of S, whatever the registers of the header hold by then
(spec 60_exceptions.md R301 (a), 42_mmr_commands.md R211). -/
def EndsInHeader (bytes : List Byte) (s : State) (x : Try State) : Prop :=
  ∃ w h f r, x = .error ⟨.unexpectedEndOfStream, BitVec.ofNat 35 (8 * bytes.length),
    headerState bytes s (BitVec.ofNat 32 bytes.length) w h f r⟩

theorem EndsInHeader.bind {bytes : List Byte} {s : State} {x : Try State} (hx : EndsInHeader bytes s x)
    (f : State → Try State) : EndsInHeader bytes s (x >>= f) := by
  obtain ⟨w, h, fl, r, rfl⟩ := hx
  exact ⟨w, h, fl, r, rfl⟩

/-- The error entry on MMR_INIT inside the header leaves the counters and the data as `initStream` set them
(spec 60_exceptions.md R309). -/
theorem initFailed_headerState (e : ErrCode) (bit : BitVec 35) (bytes : List Byte) (s : State) (n : BitVec 32)
    (w h : BitVec 16) (f : BitVec 2) (r : BitVec 16) :
    InitFailed e bit s (mmrErrorEntry e bit (headerState bytes s n w h f r)) := by
  simp [InitFailed, SameJb2, mmrErrorEntry, headerState]

/-- An MMR_INIT that S of k bytes cuts short stands at the end of S (spec 42_mmr_commands.md R211, 60_exceptions.md R309). -/
theorem exec_mmrInit_endsInHeader {bytes : List Byte} {s : State} {k : Nat} (hp : s.pos = .idle) (hk : bytes.length = k)
    (hinit : EndsInHeader bytes s (initMmr bytes s)) :
    ∃ t, exec (.mmrInit bytes) s = .next t ∧ InitFailed .unexpectedEndOfStream (BitVec.ofNat 35 (8 * k)) s t ∧
      t.sp = BitVec.ofNat 32 k := by
  subst hk
  obtain ⟨w, h, f, r, hraise⟩ := hinit
  refine ⟨_, ?_, initFailed_headerState _ _ bytes s (BitVec.ofNat 32 bytes.length) w h f r, rfl⟩
  rw [exec_mmrInit hp, hraise, finishMmr_error]

/-! ## S ends before a field is whole -/

/-- S ends inside the magic: none of its bytes has been looked at (spec 42_mmr_commands.md R211). -/
theorem parseHeader_shortMagic {bytes : List Byte} (hlen : bytes.length < 4) (s : State) :
    parseHeader (initStream bytes s) = .error ⟨.unexpectedEndOfStream, BitVec.ofNat 35 (8 * bytes.length),
      headerState bytes s (BitVec.ofNat 32 bytes.length) 0 0 0 0⟩ := by
  have hread := read32_short (s := initStream bytes s) (Nat.zero_le _) (Nat.lt_of_lt_of_eq hlen (Nat.zero_add 4).symm)
    (show bytes.length < 4294967296 by omega)
  rw [parseHeader, hread]
  rfl

/-- S ends inside a 16-bit field of the header, after the bytes in front of it (spec 20_memory.md R62). -/
theorem read16_headerState_short {front l : List Byte} {n : BitVec 32} (hn : n.toNat = front.length)
    (hsmall : n.toNat < 4294967294) (hl : l.length < 2) (s : State) (w h : BitVec 16) (f : BitVec 2) (r : BitVec 16) :
    read16 (headerState (front ++ l) s n w h f r) = .error ⟨.unexpectedEndOfStream, BitVec.ofNat 35 (8 * (front ++ l).length),
      headerState (front ++ l) s (BitVec.ofNat 32 (front ++ l).length) w h f r⟩ := by
  have hlen : (front ++ l).length = n.toNat + l.length := by rw [List.length_append, hn]
  exact read16_short (s := headerState (front ++ l) s n w h f r)
    (show n.toNat ≤ (front ++ l).length by omega) (show (front ++ l).length < n.toNat + 2 by omega)
    (show (front ++ l).length < 4294967296 by omega)

/-- The first four bytes of a header (spec 30_encoding.md R116). -/
def magicBytes (inv : Bool) (stripes : Option (BitVec 16)) : List Byte :=
  [0x4d, 0x4d, 0x52, BitVec.ofNat 8 (inv.toNat + 2 * stripes.isSome.toNat)]

section
variable {bytes : List Byte} {s : State} {inv : Bool} {stripes : Option (BitVec 16)} {w : BitVec 16} {e : Raised}
  (hmagic : read32 (initStream bytes s) = .ok (headerMagic inv stripes, headerState bytes s 4 0 0 0 0))
include hmagic

/-- The read of W is the first after the magic (spec 42_mmr_commands.md R211). -/
theorem parseHeader_widthRaises (hwidth : read16 (headerState bytes s 4 0 0 (headerFlags inv stripes) 0) = .error e) :
    parseHeader (initStream bytes s) = .error e := by
  have hwidth' : read16 { headerState bytes s 4 0 0 0 0 with flags := headerFlags inv stripes } = .error e := hwidth
  simp only [parseHeader, hmagic, try_ok_bind, headerMagic_masked, headerMagic_flags, ne_eq, not_true_eq_false, if_false,
    hwidth', try_error_bind]

/-- The read of H comes before the check of W (spec 42_mmr_commands.md R211, 60_exceptions.md R312). -/
theorem parseHeader_heightRaises
    (hwidth : read16 (headerState bytes s 4 0 0 (headerFlags inv stripes) 0) =
      .ok (w, headerState bytes s 6 0 0 (headerFlags inv stripes) 0))
    (hheight : read16 (headerState bytes s 6 w 0 (headerFlags inv stripes) 0) = .error e) :
    parseHeader (initStream bytes s) = .error e := by
  have hwidth' : read16 { headerState bytes s 4 0 0 0 0 with flags := headerFlags inv stripes } = _ := hwidth
  have hheight' : read16 { headerState bytes s 6 0 0 (headerFlags inv stripes) 0 with width := w } = .error e := hheight
  simp only [parseHeader, hmagic, try_ok_bind, headerMagic_masked, headerMagic_flags, ne_eq, not_true_eq_false, if_false,
    hwidth', hheight', try_error_bind]

/-- A header whose W and H are read goes on with the checks of both (spec 42_mmr_commands.md R211). -/
theorem parseHeader_sizeRead {h : BitVec 16}
    (hwidth : read16 (headerState bytes s 4 0 0 (headerFlags inv stripes) 0) =
      .ok (w, headerState bytes s 6 0 0 (headerFlags inv stripes) 0))
    (hheight : read16 (headerState bytes s 6 w 0 (headerFlags inv stripes) 0) =
      .ok (h, headerState bytes s 8 w 0 (headerFlags inv stripes) 0)) :
    parseHeader (initStream bytes s) = headerChecks (headerState bytes s 8 w h (headerFlags inv stripes) 0) := by
  have hwidth' : read16 { headerState bytes s 4 0 0 0 0 with flags := headerFlags inv stripes } = _ := hwidth
  have hheight' : read16 { headerState bytes s 6 0 0 (headerFlags inv stripes) 0 with width := w } = _ := hheight
  simp only [parseHeader, hmagic, try_ok_bind, headerMagic_masked, headerMagic_flags, ne_eq, not_true_eq_false, if_false,
    hwidth', hheight']
  rfl

end

/-- RPS is read in a striped header whose W and H pass (spec 42_mmr_commands.md R211). -/
theorem headerChecks_rpsRaises {s : State} {e : Raised} (hw : s.width ≠ 0) (hh : s.height ≠ 0) (hf : s.striped = true)
    (hread : read16 s = .error e) : headerChecks s = .error e := by
  rw [headerChecks, if_neg (not_or.mpr ⟨hw, hh⟩), if_pos hf, hread, try_error_bind]

section
variable (w h : BitVec 16) (inv : Bool) (stripes : Option (BitVec 16)) {l : List Byte} (hl : l.length < 2) (s : State)
include hl

/-- S ends inside W. -/
theorem parseHeader_shortWidth :
    EndsInHeader (magicBytes inv stripes ++ l) s (parseHeader (initStream (magicBytes inv stripes ++ l) s)) := by
  refine ⟨0, 0, headerFlags inv stripes, 0, parseHeader_widthRaises (inv := inv) (stripes := stripes) rfl ?_⟩
  exact read16_headerState_short rfl (by decide) hl s 0 0 _ 0

/-- S ends inside H. -/
theorem parseHeader_shortHeight :
    EndsInHeader (magicBytes inv stripes ++ be16 w ++ l) s
      (parseHeader (initStream (magicBytes inv stripes ++ be16 w ++ l) s)) := by
  refine ⟨w, 0, headerFlags inv stripes, 0, parseHeader_heightRaises (inv := inv) (stripes := stripes) rfl
    (read16_headerState s 0 0 _ 0 rfl rfl) ?_⟩
  exact read16_headerState_short rfl (by decide) hl s w 0 _ 0

/-- S ends inside RPS, in a striped header whose W and H pass. -/
theorem parseHeader_shortRps (r : BitVec 16) (hw : w ≠ 0) (hh : h ≠ 0) :
    EndsInHeader (magicBytes inv (some r) ++ be16 w ++ be16 h ++ l) s
      (parseHeader (initStream (magicBytes inv (some r) ++ be16 w ++ be16 h ++ l) s)) := by
  have hsize := parseHeader_sizeRead (bytes := magicBytes inv (some r) ++ be16 w ++ be16 h ++ l) (s := s) (h := h)
    (inv := inv) (stripes := some r) rfl (read16_headerState s 0 0 _ 0 rfl rfl) (read16_headerState s w 0 _ 0 rfl rfl)
  have hrps := read16_headerState_short (front := magicBytes inv (some r) ++ be16 w ++ be16 h) (n := 8) rfl (by decide) hl s
    w h (headerFlags inv (some r)) 0
  exact ⟨w, h, headerFlags inv (some r), 0, hsize.trans (headerChecks_rpsRaises hw hh (headerFlags_striped inv r) hrps)⟩

end

/-- A striped chunk whose first stripe cannot be entered (spec 42_mmr_commands.md R210, R213). -/
theorem initMmr_stripeRaises {bytes : List Byte} {s u : State} {e : Raised}
    (hu : parseHeader (initStream bytes s) = .ok u) (hf : u.striped = true) (he : readStripe u = .error e) :
    initMmr bytes s = .error e := by
  rw [initMmr, hu]
  simp only [try_ok_bind, hf, if_true, enterFirstStripe, he, try_error_bind]

/-- S ends inside the length of the first stripe (spec 42_mmr_commands.md R213). -/
theorem initMmr_shortStripe {w h r : BitVec 16} (inv : Bool) {l : List Byte} (hl : l.length < 4) (s : State) (hw : w ≠ 0)
    (hh : h ≠ 0) (hr : r ≠ 0) :
    EndsInHeader (headerBytes w h inv (some r) ++ l) s (initMmr (headerBytes w h inv (some r) ++ l) s) := by
  have hlen : (headerBytes w h inv (some r) ++ l).length = 10 + l.length := by
    rw [List.length_append]
    rfl
  have hsmall : (headerBytes w h inv (some r) ++ l).length < 4294967296 := by omega
  have hparse : parseHeader (initStream (headerBytes w h inv (some r) ++ l) s) =
      .ok (headerState (headerBytes w h inv (some r) ++ l) s 10 w h (if inv then 3 else 2) r) :=
    parseHeader_striped (s := initStream (headerBytes w h inv (some r) ++ l) s) rfl hsmall hw hh hr
  have hstripe := readStripe_short (s := headerState (headerBytes w h inv (some r) ++ l) s 10 w h (if inv then 3 else 2) r)
    (show 10 ≤ (headerBytes w h inv (some r) ++ l).length by omega)
    (show (headerBytes w h inv (some r) ++ l).length < 10 + 4 by omega) hsmall
  exact ⟨w, h, if inv then 3 else 2, r, initMmr_stripeRaises hparse (stripedFlags_striped inv) hstripe⟩

/-! ## The header and the first stripe's length, cut at every byte -/

theorem length_take_lt {j n : Nat} (hj : j < n) (l : List Byte) : (l.take j).length < n :=
  Nat.lt_of_le_of_lt (List.length_take_le j l) hj

/-- A header, with anything after it, that S cuts before H is whole (spec 60_exceptions.md R312). -/
theorem parseHeader_cutInSize (w h : BitVec 16) (inv : Bool) (stripes : Option (BitVec 16)) (rest : List Byte) {k : Nat}
    (hk : k < 8) (s : State) :
    EndsInHeader ((headerBytes w h inv stripes ++ rest).take k) s
      (parseHeader (initStream ((headerBytes w h inv stripes ++ rest).take k) s)) := by
  by_cases hmagic : k < 4
  · exact ⟨0, 0, 0, 0, parseHeader_shortMagic (length_take_lt hmagic _) s⟩
  by_cases hwidth : k < 6
  · obtain ⟨j, rfl⟩ : ∃ j, k = j + 4 := ⟨k - 4, by omega⟩
    have hshort := length_take_lt (show j < 2 by omega) ((headerBytes w h inv stripes ++ rest).drop 4)
    exact parseHeader_shortWidth inv stripes hshort s
  · obtain ⟨j, rfl⟩ : ∃ j, k = j + 6 := ⟨k - 6, by omega⟩
    have hshort := length_take_lt (show j < 2 by omega) ((headerBytes w h inv stripes ++ rest).drop 6)
    exact parseHeader_shortHeight w inv stripes hshort s

/-- A striped header and its first stripe's length, cut anywhere (spec 42_mmr_commands.md R211, R213). -/
theorem initMmr_cutInStriped {w h r : BitVec 16} (inv : Bool) (len : BitVec 32) {k : Nat} (hw : w ≠ 0) (hh : h ≠ 0)
    (hk : k < 10 ∨ r ≠ 0 ∧ k < 14) (s : State) :
    EndsInHeader ((headerBytes w h inv (some r) ++ be32 len).take k) s
      (initMmr ((headerBytes w h inv (some r) ++ be32 len).take k) s) := by
  by_cases hsize : k < 8
  · exact (parseHeader_cutInSize w h inv (some r) (be32 len) hsize s).bind _
  by_cases hrps : k < 10
  · obtain ⟨j, rfl⟩ : ∃ j, k = j + 8 := ⟨k - 8, by omega⟩
    have hshort := length_take_lt (show j < 2 by omega) (be16 r ++ be32 len)
    exact (parseHeader_shortRps w h inv hshort s r hw hh).bind _
  · obtain ⟨hr, hlen⟩ := hk.resolve_left hrps
    obtain ⟨j, rfl⟩ : ∃ j, k = j + 10 := ⟨k - 10, by omega⟩
    exact initMmr_shortStripe inv (length_take_lt (show j < 4 by omega) (be32 len)) s hw hh hr

theorem headerBytes_length_ge (w h : BitVec 16) (inv : Bool) (stripes : Option (BitVec 16)) :
    8 ≤ (headerBytes w h inv stripes).length := by
  cases stripes with
  | none => exact Nat.le_refl 8
  | some r => exact Nat.le_add_right 8 2

/-- Settles O15: each read of the header and the read of the stripe's length, where S ends inside its field. -/
theorem mmrInitCutShort : Obligations.MmrInitCutShort := by
  intro s hp
  refine ⟨fun bytes hlen => ?_, fun w h inv stripes k hk => ?_, fun w h r inv len k hw hh hk => ?_⟩
  · have hraise : initMmr bytes s = .error _ := congrArg (· >>= _) (parseHeader_shortMagic hlen s)
    refine ⟨_, ?_, initFailed_headerState _ _ bytes s (BitVec.ofNat 32 bytes.length) 0 0 0 0, rfl, rfl, rfl, rfl, rfl⟩
    rw [exec_mmrInit hp, hraise, finishMmr_error]
  · have hlen : ((headerBytes w h inv stripes).take k).length = k :=
      List.length_take_of_le (by have := headerBytes_length_ge w h inv stripes; omega)
    have hcut := parseHeader_cutInSize w h inv stripes [] hk s
    rw [List.append_nil] at hcut
    exact exec_mmrInit_endsInHeader hp hlen (hcut.bind _)
  · have hlen : ((headerBytes w h inv (some r) ++ be32 len).take k).length = k :=
      List.length_take_of_le (show k ≤ 14 by omega)
    exact exec_mmrInit_endsInHeader hp hlen (initMmr_cutInStriped inv len hw hh hk s)

end Sys2Proof.Machine
